-- ==== Sys2Proof/Word.lean ====
section
/-! DEFINITION. The two word types of the core (00_scope.md R7, R9): an 8-bit byte and a 16-bit word. Both are
bit vectors, so their own addition and subtraction are the spec's `+%` and `-%` (R10). -/

namespace Sys2Proof

/-- A byte, 0..255 (R9). -/
abbrev Byte := BitVec 8

/-- A word, 0..65535: an address or a 16-bit operand (R9). -/
abbrev Word := BitVec 16

end Sys2Proof
end

