-- ==== Sys2Proof/Machine/Bits.lean ====
section
/-! DEFINITION. The byte-order and extension helpers of 00_scope.md R10 and R11. -/

namespace Sys2Proof

/-- `lo8(w) = w[7:0]` (R10). -/
def lo8 (w : Word) : Byte := w.extractLsb' 0 8

/-- `hi8(w) = w[15:8]` (R10). -/
def hi8 (w : Word) : Byte := w.extractLsb' 8 8

/-- `hi:lo`, the word `hi * 256 + lo` (R10). -/
def wordOf (hi lo : Byte) : Word := hi ++ lo

/-- `zext_16(b)` (R11). -/
def zext16 (b : Byte) : Word := b.zeroExtend 16

/-- `sext_16(b)`: `b` if `b[7] = 0`, otherwise `b + 0xFF00` (R11). -/
def sext16 (b : Byte) : Word := b.signExtend 16

/-- `signed8(b)` (R11). -/
def signed8 (b : Byte) : Int := b.toInt

end Sys2Proof
end

