-- ==== Sys2Proof/Syntax.lean ====
section
/-! DEFINITION. The instructions: one constructor for each mnemonic and mode of spec/opcode_table.json, in the table's
order (30_encoding.md R98), with the operand bytes of its mode (R91, R92); a two-byte operand is one word `hi:lo`.
Where several rows share mnemonic and mode (JAM, ANC, the undocumented NOP forms), the constructor's first field is
the opcode byte, and WellFormed.lean says which bytes it may be (log 12). -/

namespace Sys2Proof

/-- An instruction of the core; the comment gives the opcodes, the mode and the handler rule. -/
inductive Instr where
  /-- 0x00 implied, R226. -/
  | brk
  /-- 0x01 indirectX, R183. -/
  | oraIndX (zp : Byte)
  /-- 0x02 0x12 0x22 0x32 0x42 0x52 0x62 0x72 0x92 0xB2 0xD2 0xF2 implied, R276. -/
  | jam (op : Byte)
  /-- 0x03 indirectX, R261. -/
  | sloIndX (zp : Byte)
  /-- 0x04 0x44 0x64 zeroPage, R275. -/
  | nopZp (op : Byte) (zp : Byte)
  /-- 0x05 zeroPage, R183. -/
  | oraZp (zp : Byte)
  /-- 0x06 zeroPage, R210. -/
  | aslZp (zp : Byte)
  /-- 0x07 zeroPage, R261. -/
  | sloZp (zp : Byte)
  /-- 0x08 implied, R171. -/
  | php
  /-- 0x09 immediate, R183. -/
  | oraImm (imm : Byte)
  /-- 0x0A accumulator, R210. -/
  | aslAcc
  /-- 0x0B 0x2B immediate, R269. -/
  | ancImm (op : Byte) (imm : Byte)
  /-- 0x0C absolute, R275. -/
  | nopAbs (addr : Word)
  /-- 0x0D absolute, R183. -/
  | oraAbs (addr : Word)
  /-- 0x0E absolute, R210. -/
  | aslAbs (addr : Word)
  /-- 0x0F absolute, R261. -/
  | sloAbs (addr : Word)
  /-- 0x10 relative, R229. -/
  | bpl (off : Byte)
  /-- 0x11 indirectY, R183. -/
  | oraIndY (zp : Byte)
  /-- 0x13 indirectY, R261. -/
  | sloIndY (zp : Byte)
  /-- 0x14 0x34 0x54 0x74 0xD4 0xF4 zeroPageX, R275. -/
  | nopZpX (op : Byte) (zp : Byte)
  /-- 0x15 zeroPageX, R183. -/
  | oraZpX (zp : Byte)
  /-- 0x16 zeroPageX, R210. -/
  | aslZpX (zp : Byte)
  /-- 0x17 zeroPageX, R261. -/
  | sloZpX (zp : Byte)
  /-- 0x18 implied, R250. -/
  | clc
  /-- 0x19 absoluteY, R183. -/
  | oraAbsY (addr : Word)
  /-- 0x1A 0x3A 0x5A 0x7A 0xDA 0xFA implied, R275. -/
  | nopImplied (op : Byte)
  /-- 0x1B absoluteY, R261. -/
  | sloAbsY (addr : Word)
  /-- 0x1C 0x3C 0x5C 0x7C 0xDC 0xFC absoluteX, R275. -/
  | nopAbsX (op : Byte) (addr : Word)
  /-- 0x1D absoluteX, R183. -/
  | oraAbsX (addr : Word)
  /-- 0x1E absoluteX, R210. -/
  | aslAbsX (addr : Word)
  /-- 0x1F absoluteX, R261. -/
  | sloAbsX (addr : Word)
  /-- 0x20 absolute, R222. -/
  | jsrAbs (addr : Word)
  /-- 0x21 indirectX, R182. -/
  | andIndX (zp : Byte)
  /-- 0x23 indirectX, R262. -/
  | rlaIndX (zp : Byte)
  /-- 0x24 zeroPage, R185. -/
  | bitZp (zp : Byte)
  /-- 0x25 zeroPage, R182. -/
  | andZp (zp : Byte)
  /-- 0x26 zeroPage, R212. -/
  | rolZp (zp : Byte)
  /-- 0x27 zeroPage, R262. -/
  | rlaZp (zp : Byte)
  /-- 0x28 implied, R173. -/
  | plp
  /-- 0x29 immediate, R182. -/
  | andImm (imm : Byte)
  /-- 0x2A accumulator, R212. -/
  | rolAcc
  /-- 0x2C absolute, R185. -/
  | bitAbs (addr : Word)
  /-- 0x2D absolute, R182. -/
  | andAbs (addr : Word)
  /-- 0x2E absolute, R212. -/
  | rolAbs (addr : Word)
  /-- 0x2F absolute, R262. -/
  | rlaAbs (addr : Word)
  /-- 0x30 relative, R230. -/
  | bmi (off : Byte)
  /-- 0x31 indirectY, R182. -/
  | andIndY (zp : Byte)
  /-- 0x33 indirectY, R262. -/
  | rlaIndY (zp : Byte)
  /-- 0x35 zeroPageX, R182. -/
  | andZpX (zp : Byte)
  /-- 0x36 zeroPageX, R212. -/
  | rolZpX (zp : Byte)
  /-- 0x37 zeroPageX, R262. -/
  | rlaZpX (zp : Byte)
  /-- 0x38 implied, R251. -/
  | sec
  /-- 0x39 absoluteY, R182. -/
  | andAbsY (addr : Word)
  /-- 0x3B absoluteY, R262. -/
  | rlaAbsY (addr : Word)
  /-- 0x3D absoluteX, R182. -/
  | andAbsX (addr : Word)
  /-- 0x3E absoluteX, R212. -/
  | rolAbsX (addr : Word)
  /-- 0x3F absoluteX, R262. -/
  | rlaAbsX (addr : Word)
  /-- 0x40 implied, R227. -/
  | rti
  /-- 0x41 indirectX, R184. -/
  | eorIndX (zp : Byte)
  /-- 0x43 indirectX, R263. -/
  | sreIndX (zp : Byte)
  /-- 0x45 zeroPage, R184. -/
  | eorZp (zp : Byte)
  /-- 0x46 zeroPage, R211. -/
  | lsrZp (zp : Byte)
  /-- 0x47 zeroPage, R263. -/
  | sreZp (zp : Byte)
  /-- 0x48 implied, R170. -/
  | pha
  /-- 0x49 immediate, R184. -/
  | eorImm (imm : Byte)
  /-- 0x4A accumulator, R211. -/
  | lsrAcc
  /-- 0x4B immediate, R270. -/
  | alrImm (imm : Byte)
  /-- 0x4C absolute, R220. -/
  | jmpAbs (addr : Word)
  /-- 0x4D absolute, R184. -/
  | eorAbs (addr : Word)
  /-- 0x4E absolute, R211. -/
  | lsrAbs (addr : Word)
  /-- 0x4F absolute, R263. -/
  | sreAbs (addr : Word)
  /-- 0x50 relative, R231. -/
  | bvc (off : Byte)
  /-- 0x51 indirectY, R184. -/
  | eorIndY (zp : Byte)
  /-- 0x53 indirectY, R263. -/
  | sreIndY (zp : Byte)
  /-- 0x55 zeroPageX, R184. -/
  | eorZpX (zp : Byte)
  /-- 0x56 zeroPageX, R211. -/
  | lsrZpX (zp : Byte)
  /-- 0x57 zeroPageX, R263. -/
  | sreZpX (zp : Byte)
  /-- 0x58 implied, R252. -/
  | cli
  /-- 0x59 absoluteY, R184. -/
  | eorAbsY (addr : Word)
  /-- 0x5B absoluteY, R263. -/
  | sreAbsY (addr : Word)
  /-- 0x5D absoluteX, R184. -/
  | eorAbsX (addr : Word)
  /-- 0x5E absoluteX, R211. -/
  | lsrAbsX (addr : Word)
  /-- 0x5F absoluteX, R263. -/
  | sreAbsX (addr : Word)
  /-- 0x60 implied, R223. -/
  | rts
  /-- 0x61 indirectX, R180. -/
  | adcIndX (zp : Byte)
  /-- 0x63 indirectX, R264. -/
  | rraIndX (zp : Byte)
  /-- 0x65 zeroPage, R180. -/
  | adcZp (zp : Byte)
  /-- 0x66 zeroPage, R213. -/
  | rorZp (zp : Byte)
  /-- 0x67 zeroPage, R264. -/
  | rraZp (zp : Byte)
  /-- 0x68 implied, R172. -/
  | pla
  /-- 0x69 immediate, R180. -/
  | adcImm (imm : Byte)
  /-- 0x6A accumulator, R213. -/
  | rorAcc
  /-- 0x6B immediate, R271. -/
  | arrImm (imm : Byte)
  /-- 0x6C indirect, R221. -/
  | jmpInd (ptr : Word)
  /-- 0x6D absolute, R180. -/
  | adcAbs (addr : Word)
  /-- 0x6E absolute, R213. -/
  | rorAbs (addr : Word)
  /-- 0x6F absolute, R264. -/
  | rraAbs (addr : Word)
  /-- 0x70 relative, R232. -/
  | bvs (off : Byte)
  /-- 0x71 indirectY, R180. -/
  | adcIndY (zp : Byte)
  /-- 0x73 indirectY, R264. -/
  | rraIndY (zp : Byte)
  /-- 0x75 zeroPageX, R180. -/
  | adcZpX (zp : Byte)
  /-- 0x76 zeroPageX, R213. -/
  | rorZpX (zp : Byte)
  /-- 0x77 zeroPageX, R264. -/
  | rraZpX (zp : Byte)
  /-- 0x78 implied, R253. -/
  | sei
  /-- 0x79 absoluteY, R180. -/
  | adcAbsY (addr : Word)
  /-- 0x7B absoluteY, R264. -/
  | rraAbsY (addr : Word)
  /-- 0x7D absoluteX, R180. -/
  | adcAbsX (addr : Word)
  /-- 0x7E absoluteX, R213. -/
  | rorAbsX (addr : Word)
  /-- 0x7F absoluteX, R264. -/
  | rraAbsX (addr : Word)
  /-- 0x80 0x82 0x89 0xC2 0xE2 immediate, R275. -/
  | nopImm (op : Byte) (imm : Byte)
  /-- 0x81 indirectX, R153. -/
  | staIndX (zp : Byte)
  /-- 0x83 indirectX, R265. -/
  | saxIndX (zp : Byte)
  /-- 0x84 zeroPage, R155. -/
  | styZp (zp : Byte)
  /-- 0x85 zeroPage, R153. -/
  | staZp (zp : Byte)
  /-- 0x86 zeroPage, R154. -/
  | stxZp (zp : Byte)
  /-- 0x87 zeroPage, R265. -/
  | saxZp (zp : Byte)
  /-- 0x88 implied, R194. -/
  | dey
  /-- 0x8A implied, R158. -/
  | txa
  /-- 0x8B immediate, R277. -/
  | aneImm (imm : Byte)
  /-- 0x8C absolute, R155. -/
  | styAbs (addr : Word)
  /-- 0x8D absolute, R153. -/
  | staAbs (addr : Word)
  /-- 0x8E absolute, R154. -/
  | stxAbs (addr : Word)
  /-- 0x8F absolute, R265. -/
  | saxAbs (addr : Word)
  /-- 0x90 relative, R233. -/
  | bcc (off : Byte)
  /-- 0x91 indirectY, R153. -/
  | staIndY (zp : Byte)
  /-- 0x93 indirectY, R279. -/
  | shaIndY (zp : Byte)
  /-- 0x94 zeroPageX, R155. -/
  | styZpX (zp : Byte)
  /-- 0x95 zeroPageX, R153. -/
  | staZpX (zp : Byte)
  /-- 0x96 zeroPageY, R154. -/
  | stxZpY (zp : Byte)
  /-- 0x97 zeroPageY, R265. -/
  | saxZpY (zp : Byte)
  /-- 0x98 implied, R159. -/
  | tya
  /-- 0x99 absoluteY, R153. -/
  | staAbsY (addr : Word)
  /-- 0x9A implied, R161. -/
  | txs
  /-- 0x9B absoluteY, R282. -/
  | tasAbsY (addr : Word)
  /-- 0x9C absoluteX, R280. -/
  | shyAbsX (addr : Word)
  /-- 0x9D absoluteX, R153. -/
  | staAbsX (addr : Word)
  /-- 0x9E absoluteY, R281. -/
  | shxAbsY (addr : Word)
  /-- 0x9F absoluteY, R279. -/
  | shaAbsY (addr : Word)
  /-- 0xA0 immediate, R152. -/
  | ldyImm (imm : Byte)
  /-- 0xA1 indirectX, R150. -/
  | ldaIndX (zp : Byte)
  /-- 0xA2 immediate, R151. -/
  | ldxImm (imm : Byte)
  /-- 0xA3 indirectX, R266. -/
  | laxIndX (zp : Byte)
  /-- 0xA4 zeroPage, R152. -/
  | ldyZp (zp : Byte)
  /-- 0xA5 zeroPage, R150. -/
  | ldaZp (zp : Byte)
  /-- 0xA6 zeroPage, R151. -/
  | ldxZp (zp : Byte)
  /-- 0xA7 zeroPage, R266. -/
  | laxZp (zp : Byte)
  /-- 0xA8 implied, R157. -/
  | tay
  /-- 0xA9 immediate, R150. -/
  | ldaImm (imm : Byte)
  /-- 0xAA implied, R156. -/
  | tax
  /-- 0xAB immediate, R278. -/
  | lxaImm (imm : Byte)
  /-- 0xAC absolute, R152. -/
  | ldyAbs (addr : Word)
  /-- 0xAD absolute, R150. -/
  | ldaAbs (addr : Word)
  /-- 0xAE absolute, R151. -/
  | ldxAbs (addr : Word)
  /-- 0xAF absolute, R266. -/
  | laxAbs (addr : Word)
  /-- 0xB0 relative, R234. -/
  | bcs (off : Byte)
  /-- 0xB1 indirectY, R150. -/
  | ldaIndY (zp : Byte)
  /-- 0xB3 indirectY, R266. -/
  | laxIndY (zp : Byte)
  /-- 0xB4 zeroPageX, R152. -/
  | ldyZpX (zp : Byte)
  /-- 0xB5 zeroPageX, R150. -/
  | ldaZpX (zp : Byte)
  /-- 0xB6 zeroPageY, R151. -/
  | ldxZpY (zp : Byte)
  /-- 0xB7 zeroPageY, R266. -/
  | laxZpY (zp : Byte)
  /-- 0xB8 implied, R256. -/
  | clv
  /-- 0xB9 absoluteY, R150. -/
  | ldaAbsY (addr : Word)
  /-- 0xBA implied, R160. -/
  | tsx
  /-- 0xBB absoluteY, R274. -/
  | lasAbsY (addr : Word)
  /-- 0xBC absoluteX, R152. -/
  | ldyAbsX (addr : Word)
  /-- 0xBD absoluteX, R150. -/
  | ldaAbsX (addr : Word)
  /-- 0xBE absoluteY, R151. -/
  | ldxAbsY (addr : Word)
  /-- 0xBF absoluteY, R266. -/
  | laxAbsY (addr : Word)
  /-- 0xC0 immediate, R188. -/
  | cpyImm (imm : Byte)
  /-- 0xC1 indirectX, R186. -/
  | cmpIndX (zp : Byte)
  /-- 0xC3 indirectX, R267. -/
  | dcpIndX (zp : Byte)
  /-- 0xC4 zeroPage, R188. -/
  | cpyZp (zp : Byte)
  /-- 0xC5 zeroPage, R186. -/
  | cmpZp (zp : Byte)
  /-- 0xC6 zeroPage, R190. -/
  | decZp (zp : Byte)
  /-- 0xC7 zeroPage, R267. -/
  | dcpZp (zp : Byte)
  /-- 0xC8 implied, R192. -/
  | iny
  /-- 0xC9 immediate, R186. -/
  | cmpImm (imm : Byte)
  /-- 0xCA implied, R193. -/
  | dex
  /-- 0xCB immediate, R272. -/
  | sbxImm (imm : Byte)
  /-- 0xCC absolute, R188. -/
  | cpyAbs (addr : Word)
  /-- 0xCD absolute, R186. -/
  | cmpAbs (addr : Word)
  /-- 0xCE absolute, R190. -/
  | decAbs (addr : Word)
  /-- 0xCF absolute, R267. -/
  | dcpAbs (addr : Word)
  /-- 0xD0 relative, R235. -/
  | bne (off : Byte)
  /-- 0xD1 indirectY, R186. -/
  | cmpIndY (zp : Byte)
  /-- 0xD3 indirectY, R267. -/
  | dcpIndY (zp : Byte)
  /-- 0xD5 zeroPageX, R186. -/
  | cmpZpX (zp : Byte)
  /-- 0xD6 zeroPageX, R190. -/
  | decZpX (zp : Byte)
  /-- 0xD7 zeroPageX, R267. -/
  | dcpZpX (zp : Byte)
  /-- 0xD8 implied, R254. -/
  | cld
  /-- 0xD9 absoluteY, R186. -/
  | cmpAbsY (addr : Word)
  /-- 0xDB absoluteY, R267. -/
  | dcpAbsY (addr : Word)
  /-- 0xDD absoluteX, R186. -/
  | cmpAbsX (addr : Word)
  /-- 0xDE absoluteX, R190. -/
  | decAbsX (addr : Word)
  /-- 0xDF absoluteX, R267. -/
  | dcpAbsX (addr : Word)
  /-- 0xE0 immediate, R187. -/
  | cpxImm (imm : Byte)
  /-- 0xE1 indirectX, R181. -/
  | sbcIndX (zp : Byte)
  /-- 0xE3 indirectX, R268. -/
  | isbIndX (zp : Byte)
  /-- 0xE4 zeroPage, R187. -/
  | cpxZp (zp : Byte)
  /-- 0xE5 zeroPage, R181. -/
  | sbcZp (zp : Byte)
  /-- 0xE6 zeroPage, R189. -/
  | incZp (zp : Byte)
  /-- 0xE7 zeroPage, R268. -/
  | isbZp (zp : Byte)
  /-- 0xE8 implied, R191. -/
  | inx
  /-- 0xE9 immediate, R181. -/
  | sbcImm (imm : Byte)
  /-- 0xEA implied, R257. -/
  | nop
  /-- 0xEB immediate, R273. -/
  | usbcImm (imm : Byte)
  /-- 0xEC absolute, R187. -/
  | cpxAbs (addr : Word)
  /-- 0xED absolute, R181. -/
  | sbcAbs (addr : Word)
  /-- 0xEE absolute, R189. -/
  | incAbs (addr : Word)
  /-- 0xEF absolute, R268. -/
  | isbAbs (addr : Word)
  /-- 0xF0 relative, R236. -/
  | beq (off : Byte)
  /-- 0xF1 indirectY, R181. -/
  | sbcIndY (zp : Byte)
  /-- 0xF3 indirectY, R268. -/
  | isbIndY (zp : Byte)
  /-- 0xF5 zeroPageX, R181. -/
  | sbcZpX (zp : Byte)
  /-- 0xF6 zeroPageX, R189. -/
  | incZpX (zp : Byte)
  /-- 0xF7 zeroPageX, R268. -/
  | isbZpX (zp : Byte)
  /-- 0xF8 implied, R255. -/
  | sed
  /-- 0xF9 absoluteY, R181. -/
  | sbcAbsY (addr : Word)
  /-- 0xFB absoluteY, R268. -/
  | isbAbsY (addr : Word)
  /-- 0xFD absoluteX, R181. -/
  | sbcAbsX (addr : Word)
  /-- 0xFE absoluteX, R189. -/
  | incAbsX (addr : Word)
  /-- 0xFF absoluteX, R268. -/
  | isbAbsX (addr : Word)
  deriving DecidableEq, Repr

end Sys2Proof
end

