-- ==== Sys2Proof/Decode.lean ====
section
/-! DEFINITION. The decoder, total on any bytes and rejecting by name, and the encoder, both written from the opcode
map of 30_encoding.md R97 and R98 and the formats of R91. -/

namespace Sys2Proof

/-- An entry of the opcode map: the format F1, F2 or F3 (R91) with the instruction its operand bytes give. -/
inductive OpcodeEntry where
  | f1 (i : Instr)
  | f2 (make : Byte → Instr)
  | f3 (make : Word → Instr)

/-- Row 0x of the opcode map (R97). -/
def opcodeRow0 : List OpcodeEntry :=
  [.f1 .brk, .f2 .oraIndX, .f1 (.jam 0x02), .f2 .sloIndX,
   .f2 (.nopZp 0x04), .f2 .oraZp, .f2 .aslZp, .f2 .sloZp,
   .f1 .php, .f2 .oraImm, .f1 .aslAcc, .f2 (.ancImm 0x0B),
   .f3 .nopAbs, .f3 .oraAbs, .f3 .aslAbs, .f3 .sloAbs]

/-- Row 1x of the opcode map (R97). -/
def opcodeRow1 : List OpcodeEntry :=
  [.f2 .bpl, .f2 .oraIndY, .f1 (.jam 0x12), .f2 .sloIndY,
   .f2 (.nopZpX 0x14), .f2 .oraZpX, .f2 .aslZpX, .f2 .sloZpX,
   .f1 .clc, .f3 .oraAbsY, .f1 (.nopImplied 0x1A), .f3 .sloAbsY,
   .f3 (.nopAbsX 0x1C), .f3 .oraAbsX, .f3 .aslAbsX, .f3 .sloAbsX]

/-- Row 2x of the opcode map (R97). -/
def opcodeRow2 : List OpcodeEntry :=
  [.f3 .jsrAbs, .f2 .andIndX, .f1 (.jam 0x22), .f2 .rlaIndX,
   .f2 .bitZp, .f2 .andZp, .f2 .rolZp, .f2 .rlaZp,
   .f1 .plp, .f2 .andImm, .f1 .rolAcc, .f2 (.ancImm 0x2B),
   .f3 .bitAbs, .f3 .andAbs, .f3 .rolAbs, .f3 .rlaAbs]

/-- Row 3x of the opcode map (R97). -/
def opcodeRow3 : List OpcodeEntry :=
  [.f2 .bmi, .f2 .andIndY, .f1 (.jam 0x32), .f2 .rlaIndY,
   .f2 (.nopZpX 0x34), .f2 .andZpX, .f2 .rolZpX, .f2 .rlaZpX,
   .f1 .sec, .f3 .andAbsY, .f1 (.nopImplied 0x3A), .f3 .rlaAbsY,
   .f3 (.nopAbsX 0x3C), .f3 .andAbsX, .f3 .rolAbsX, .f3 .rlaAbsX]

/-- Row 4x of the opcode map (R97). -/
def opcodeRow4 : List OpcodeEntry :=
  [.f1 .rti, .f2 .eorIndX, .f1 (.jam 0x42), .f2 .sreIndX,
   .f2 (.nopZp 0x44), .f2 .eorZp, .f2 .lsrZp, .f2 .sreZp,
   .f1 .pha, .f2 .eorImm, .f1 .lsrAcc, .f2 .alrImm,
   .f3 .jmpAbs, .f3 .eorAbs, .f3 .lsrAbs, .f3 .sreAbs]

/-- Row 5x of the opcode map (R97). -/
def opcodeRow5 : List OpcodeEntry :=
  [.f2 .bvc, .f2 .eorIndY, .f1 (.jam 0x52), .f2 .sreIndY,
   .f2 (.nopZpX 0x54), .f2 .eorZpX, .f2 .lsrZpX, .f2 .sreZpX,
   .f1 .cli, .f3 .eorAbsY, .f1 (.nopImplied 0x5A), .f3 .sreAbsY,
   .f3 (.nopAbsX 0x5C), .f3 .eorAbsX, .f3 .lsrAbsX, .f3 .sreAbsX]

/-- Row 6x of the opcode map (R97). -/
def opcodeRow6 : List OpcodeEntry :=
  [.f1 .rts, .f2 .adcIndX, .f1 (.jam 0x62), .f2 .rraIndX,
   .f2 (.nopZp 0x64), .f2 .adcZp, .f2 .rorZp, .f2 .rraZp,
   .f1 .pla, .f2 .adcImm, .f1 .rorAcc, .f2 .arrImm,
   .f3 .jmpInd, .f3 .adcAbs, .f3 .rorAbs, .f3 .rraAbs]

/-- Row 7x of the opcode map (R97). -/
def opcodeRow7 : List OpcodeEntry :=
  [.f2 .bvs, .f2 .adcIndY, .f1 (.jam 0x72), .f2 .rraIndY,
   .f2 (.nopZpX 0x74), .f2 .adcZpX, .f2 .rorZpX, .f2 .rraZpX,
   .f1 .sei, .f3 .adcAbsY, .f1 (.nopImplied 0x7A), .f3 .rraAbsY,
   .f3 (.nopAbsX 0x7C), .f3 .adcAbsX, .f3 .rorAbsX, .f3 .rraAbsX]

/-- Row 8x of the opcode map (R97). -/
def opcodeRow8 : List OpcodeEntry :=
  [.f2 (.nopImm 0x80), .f2 .staIndX, .f2 (.nopImm 0x82), .f2 .saxIndX,
   .f2 .styZp, .f2 .staZp, .f2 .stxZp, .f2 .saxZp,
   .f1 .dey, .f2 (.nopImm 0x89), .f1 .txa, .f2 .aneImm,
   .f3 .styAbs, .f3 .staAbs, .f3 .stxAbs, .f3 .saxAbs]

/-- Row 9x of the opcode map (R97). -/
def opcodeRow9 : List OpcodeEntry :=
  [.f2 .bcc, .f2 .staIndY, .f1 (.jam 0x92), .f2 .shaIndY,
   .f2 .styZpX, .f2 .staZpX, .f2 .stxZpY, .f2 .saxZpY,
   .f1 .tya, .f3 .staAbsY, .f1 .txs, .f3 .tasAbsY,
   .f3 .shyAbsX, .f3 .staAbsX, .f3 .shxAbsY, .f3 .shaAbsY]

/-- Row Ax of the opcode map (R97). -/
def opcodeRowA : List OpcodeEntry :=
  [.f2 .ldyImm, .f2 .ldaIndX, .f2 .ldxImm, .f2 .laxIndX,
   .f2 .ldyZp, .f2 .ldaZp, .f2 .ldxZp, .f2 .laxZp,
   .f1 .tay, .f2 .ldaImm, .f1 .tax, .f2 .lxaImm,
   .f3 .ldyAbs, .f3 .ldaAbs, .f3 .ldxAbs, .f3 .laxAbs]

/-- Row Bx of the opcode map (R97). -/
def opcodeRowB : List OpcodeEntry :=
  [.f2 .bcs, .f2 .ldaIndY, .f1 (.jam 0xB2), .f2 .laxIndY,
   .f2 .ldyZpX, .f2 .ldaZpX, .f2 .ldxZpY, .f2 .laxZpY,
   .f1 .clv, .f3 .ldaAbsY, .f1 .tsx, .f3 .lasAbsY,
   .f3 .ldyAbsX, .f3 .ldaAbsX, .f3 .ldxAbsY, .f3 .laxAbsY]

/-- Row Cx of the opcode map (R97). -/
def opcodeRowC : List OpcodeEntry :=
  [.f2 .cpyImm, .f2 .cmpIndX, .f2 (.nopImm 0xC2), .f2 .dcpIndX,
   .f2 .cpyZp, .f2 .cmpZp, .f2 .decZp, .f2 .dcpZp,
   .f1 .iny, .f2 .cmpImm, .f1 .dex, .f2 .sbxImm,
   .f3 .cpyAbs, .f3 .cmpAbs, .f3 .decAbs, .f3 .dcpAbs]

/-- Row Dx of the opcode map (R97). -/
def opcodeRowD : List OpcodeEntry :=
  [.f2 .bne, .f2 .cmpIndY, .f1 (.jam 0xD2), .f2 .dcpIndY,
   .f2 (.nopZpX 0xD4), .f2 .cmpZpX, .f2 .decZpX, .f2 .dcpZpX,
   .f1 .cld, .f3 .cmpAbsY, .f1 (.nopImplied 0xDA), .f3 .dcpAbsY,
   .f3 (.nopAbsX 0xDC), .f3 .cmpAbsX, .f3 .decAbsX, .f3 .dcpAbsX]

/-- Row Ex of the opcode map (R97). -/
def opcodeRowE : List OpcodeEntry :=
  [.f2 .cpxImm, .f2 .sbcIndX, .f2 (.nopImm 0xE2), .f2 .isbIndX,
   .f2 .cpxZp, .f2 .sbcZp, .f2 .incZp, .f2 .isbZp,
   .f1 .inx, .f2 .sbcImm, .f1 .nop, .f2 .usbcImm,
   .f3 .cpxAbs, .f3 .sbcAbs, .f3 .incAbs, .f3 .isbAbs]

/-- Row Fx of the opcode map (R97). -/
def opcodeRowF : List OpcodeEntry :=
  [.f2 .beq, .f2 .sbcIndY, .f1 (.jam 0xF2), .f2 .isbIndY,
   .f2 (.nopZpX 0xF4), .f2 .sbcZpX, .f2 .incZpX, .f2 .isbZpX,
   .f1 .sed, .f3 .sbcAbsY, .f1 (.nopImplied 0xFA), .f3 .isbAbsY,
   .f3 (.nopAbsX 0xFC), .f3 .sbcAbsX, .f3 .incAbsX, .f3 .isbAbsX]

/-- The opcode map, one row per high nibble (R97). -/
def opcodeMap : List (List OpcodeEntry) :=
  [opcodeRow0, opcodeRow1, opcodeRow2, opcodeRow3, opcodeRow4, opcodeRow5, opcodeRow6, opcodeRow7,
   opcodeRow8, opcodeRow9, opcodeRowA, opcodeRowB, opcodeRowC, opcodeRowD, opcodeRowE, opcodeRowF]

/-- The lookup of the whole opcode byte (R94, R96). -/
def opcodeEntry (op : Byte) : Option OpcodeEntry := opcodeMap[op.toNat / 16]?.bind (fun row => row[op.toNat % 16]?)

/-- Why bytes do not decode. -/
inductive DecodeError where
  /-- There is no byte. -/
  | noBytes
  /-- The table has no entry for the opcode (60_exceptions.md R304); unreachable. -/
  | tableMiss (opcode : Byte)
  /-- An operand byte of the opcode's format is missing. -/
  | truncated (opcode : Byte)
  deriving DecidableEq, Repr

/-- Read one instruction from the front of a byte list: the opcode's entry, then `length - 1` operand bytes, the low
byte of a word first (R91, R104). Answers the instruction and the bytes after it. -/
def decode : List Byte → Except DecodeError (Instr × List Byte)
  | [] => .error .noBytes
  | op :: rest =>
    match opcodeEntry op with
    | none => .error (.tableMiss op)
    | some (.f1 i) => .ok (i, rest)
    | some (.f2 make) =>
      match rest with
      | b1 :: rest => .ok (make b1, rest)
      | [] => .error (.truncated op)
    | some (.f3 make) =>
      match rest with
      | lo :: hi :: rest => .ok (make (wordOf hi lo), rest)
      | [_] => .error (.truncated op)
      | [] => .error (.truncated op)

/-- The bytes of an instruction, opcode first (R91, R98). -/
def encode : Instr → List Byte
  | .brk => [0x00]
  | .oraIndX zp => [0x01, zp]
  | .jam op => [op]
  | .sloIndX zp => [0x03, zp]
  | .nopZp op zp => [op, zp]
  | .oraZp zp => [0x05, zp]
  | .aslZp zp => [0x06, zp]
  | .sloZp zp => [0x07, zp]
  | .php => [0x08]
  | .oraImm imm => [0x09, imm]
  | .aslAcc => [0x0A]
  | .ancImm op imm => [op, imm]
  | .nopAbs addr => [0x0C, lo8 addr, hi8 addr]
  | .oraAbs addr => [0x0D, lo8 addr, hi8 addr]
  | .aslAbs addr => [0x0E, lo8 addr, hi8 addr]
  | .sloAbs addr => [0x0F, lo8 addr, hi8 addr]
  | .bpl off => [0x10, off]
  | .oraIndY zp => [0x11, zp]
  | .sloIndY zp => [0x13, zp]
  | .nopZpX op zp => [op, zp]
  | .oraZpX zp => [0x15, zp]
  | .aslZpX zp => [0x16, zp]
  | .sloZpX zp => [0x17, zp]
  | .clc => [0x18]
  | .oraAbsY addr => [0x19, lo8 addr, hi8 addr]
  | .nopImplied op => [op]
  | .sloAbsY addr => [0x1B, lo8 addr, hi8 addr]
  | .nopAbsX op addr => [op, lo8 addr, hi8 addr]
  | .oraAbsX addr => [0x1D, lo8 addr, hi8 addr]
  | .aslAbsX addr => [0x1E, lo8 addr, hi8 addr]
  | .sloAbsX addr => [0x1F, lo8 addr, hi8 addr]
  | .jsrAbs addr => [0x20, lo8 addr, hi8 addr]
  | .andIndX zp => [0x21, zp]
  | .rlaIndX zp => [0x23, zp]
  | .bitZp zp => [0x24, zp]
  | .andZp zp => [0x25, zp]
  | .rolZp zp => [0x26, zp]
  | .rlaZp zp => [0x27, zp]
  | .plp => [0x28]
  | .andImm imm => [0x29, imm]
  | .rolAcc => [0x2A]
  | .bitAbs addr => [0x2C, lo8 addr, hi8 addr]
  | .andAbs addr => [0x2D, lo8 addr, hi8 addr]
  | .rolAbs addr => [0x2E, lo8 addr, hi8 addr]
  | .rlaAbs addr => [0x2F, lo8 addr, hi8 addr]
  | .bmi off => [0x30, off]
  | .andIndY zp => [0x31, zp]
  | .rlaIndY zp => [0x33, zp]
  | .andZpX zp => [0x35, zp]
  | .rolZpX zp => [0x36, zp]
  | .rlaZpX zp => [0x37, zp]
  | .sec => [0x38]
  | .andAbsY addr => [0x39, lo8 addr, hi8 addr]
  | .rlaAbsY addr => [0x3B, lo8 addr, hi8 addr]
  | .andAbsX addr => [0x3D, lo8 addr, hi8 addr]
  | .rolAbsX addr => [0x3E, lo8 addr, hi8 addr]
  | .rlaAbsX addr => [0x3F, lo8 addr, hi8 addr]
  | .rti => [0x40]
  | .eorIndX zp => [0x41, zp]
  | .sreIndX zp => [0x43, zp]
  | .eorZp zp => [0x45, zp]
  | .lsrZp zp => [0x46, zp]
  | .sreZp zp => [0x47, zp]
  | .pha => [0x48]
  | .eorImm imm => [0x49, imm]
  | .lsrAcc => [0x4A]
  | .alrImm imm => [0x4B, imm]
  | .jmpAbs addr => [0x4C, lo8 addr, hi8 addr]
  | .eorAbs addr => [0x4D, lo8 addr, hi8 addr]
  | .lsrAbs addr => [0x4E, lo8 addr, hi8 addr]
  | .sreAbs addr => [0x4F, lo8 addr, hi8 addr]
  | .bvc off => [0x50, off]
  | .eorIndY zp => [0x51, zp]
  | .sreIndY zp => [0x53, zp]
  | .eorZpX zp => [0x55, zp]
  | .lsrZpX zp => [0x56, zp]
  | .sreZpX zp => [0x57, zp]
  | .cli => [0x58]
  | .eorAbsY addr => [0x59, lo8 addr, hi8 addr]
  | .sreAbsY addr => [0x5B, lo8 addr, hi8 addr]
  | .eorAbsX addr => [0x5D, lo8 addr, hi8 addr]
  | .lsrAbsX addr => [0x5E, lo8 addr, hi8 addr]
  | .sreAbsX addr => [0x5F, lo8 addr, hi8 addr]
  | .rts => [0x60]
  | .adcIndX zp => [0x61, zp]
  | .rraIndX zp => [0x63, zp]
  | .adcZp zp => [0x65, zp]
  | .rorZp zp => [0x66, zp]
  | .rraZp zp => [0x67, zp]
  | .pla => [0x68]
  | .adcImm imm => [0x69, imm]
  | .rorAcc => [0x6A]
  | .arrImm imm => [0x6B, imm]
  | .jmpInd ptr => [0x6C, lo8 ptr, hi8 ptr]
  | .adcAbs addr => [0x6D, lo8 addr, hi8 addr]
  | .rorAbs addr => [0x6E, lo8 addr, hi8 addr]
  | .rraAbs addr => [0x6F, lo8 addr, hi8 addr]
  | .bvs off => [0x70, off]
  | .adcIndY zp => [0x71, zp]
  | .rraIndY zp => [0x73, zp]
  | .adcZpX zp => [0x75, zp]
  | .rorZpX zp => [0x76, zp]
  | .rraZpX zp => [0x77, zp]
  | .sei => [0x78]
  | .adcAbsY addr => [0x79, lo8 addr, hi8 addr]
  | .rraAbsY addr => [0x7B, lo8 addr, hi8 addr]
  | .adcAbsX addr => [0x7D, lo8 addr, hi8 addr]
  | .rorAbsX addr => [0x7E, lo8 addr, hi8 addr]
  | .rraAbsX addr => [0x7F, lo8 addr, hi8 addr]
  | .nopImm op imm => [op, imm]
  | .staIndX zp => [0x81, zp]
  | .saxIndX zp => [0x83, zp]
  | .styZp zp => [0x84, zp]
  | .staZp zp => [0x85, zp]
  | .stxZp zp => [0x86, zp]
  | .saxZp zp => [0x87, zp]
  | .dey => [0x88]
  | .txa => [0x8A]
  | .aneImm imm => [0x8B, imm]
  | .styAbs addr => [0x8C, lo8 addr, hi8 addr]
  | .staAbs addr => [0x8D, lo8 addr, hi8 addr]
  | .stxAbs addr => [0x8E, lo8 addr, hi8 addr]
  | .saxAbs addr => [0x8F, lo8 addr, hi8 addr]
  | .bcc off => [0x90, off]
  | .staIndY zp => [0x91, zp]
  | .shaIndY zp => [0x93, zp]
  | .styZpX zp => [0x94, zp]
  | .staZpX zp => [0x95, zp]
  | .stxZpY zp => [0x96, zp]
  | .saxZpY zp => [0x97, zp]
  | .tya => [0x98]
  | .staAbsY addr => [0x99, lo8 addr, hi8 addr]
  | .txs => [0x9A]
  | .tasAbsY addr => [0x9B, lo8 addr, hi8 addr]
  | .shyAbsX addr => [0x9C, lo8 addr, hi8 addr]
  | .staAbsX addr => [0x9D, lo8 addr, hi8 addr]
  | .shxAbsY addr => [0x9E, lo8 addr, hi8 addr]
  | .shaAbsY addr => [0x9F, lo8 addr, hi8 addr]
  | .ldyImm imm => [0xA0, imm]
  | .ldaIndX zp => [0xA1, zp]
  | .ldxImm imm => [0xA2, imm]
  | .laxIndX zp => [0xA3, zp]
  | .ldyZp zp => [0xA4, zp]
  | .ldaZp zp => [0xA5, zp]
  | .ldxZp zp => [0xA6, zp]
  | .laxZp zp => [0xA7, zp]
  | .tay => [0xA8]
  | .ldaImm imm => [0xA9, imm]
  | .tax => [0xAA]
  | .lxaImm imm => [0xAB, imm]
  | .ldyAbs addr => [0xAC, lo8 addr, hi8 addr]
  | .ldaAbs addr => [0xAD, lo8 addr, hi8 addr]
  | .ldxAbs addr => [0xAE, lo8 addr, hi8 addr]
  | .laxAbs addr => [0xAF, lo8 addr, hi8 addr]
  | .bcs off => [0xB0, off]
  | .ldaIndY zp => [0xB1, zp]
  | .laxIndY zp => [0xB3, zp]
  | .ldyZpX zp => [0xB4, zp]
  | .ldaZpX zp => [0xB5, zp]
  | .ldxZpY zp => [0xB6, zp]
  | .laxZpY zp => [0xB7, zp]
  | .clv => [0xB8]
  | .ldaAbsY addr => [0xB9, lo8 addr, hi8 addr]
  | .tsx => [0xBA]
  | .lasAbsY addr => [0xBB, lo8 addr, hi8 addr]
  | .ldyAbsX addr => [0xBC, lo8 addr, hi8 addr]
  | .ldaAbsX addr => [0xBD, lo8 addr, hi8 addr]
  | .ldxAbsY addr => [0xBE, lo8 addr, hi8 addr]
  | .laxAbsY addr => [0xBF, lo8 addr, hi8 addr]
  | .cpyImm imm => [0xC0, imm]
  | .cmpIndX zp => [0xC1, zp]
  | .dcpIndX zp => [0xC3, zp]
  | .cpyZp zp => [0xC4, zp]
  | .cmpZp zp => [0xC5, zp]
  | .decZp zp => [0xC6, zp]
  | .dcpZp zp => [0xC7, zp]
  | .iny => [0xC8]
  | .cmpImm imm => [0xC9, imm]
  | .dex => [0xCA]
  | .sbxImm imm => [0xCB, imm]
  | .cpyAbs addr => [0xCC, lo8 addr, hi8 addr]
  | .cmpAbs addr => [0xCD, lo8 addr, hi8 addr]
  | .decAbs addr => [0xCE, lo8 addr, hi8 addr]
  | .dcpAbs addr => [0xCF, lo8 addr, hi8 addr]
  | .bne off => [0xD0, off]
  | .cmpIndY zp => [0xD1, zp]
  | .dcpIndY zp => [0xD3, zp]
  | .cmpZpX zp => [0xD5, zp]
  | .decZpX zp => [0xD6, zp]
  | .dcpZpX zp => [0xD7, zp]
  | .cld => [0xD8]
  | .cmpAbsY addr => [0xD9, lo8 addr, hi8 addr]
  | .dcpAbsY addr => [0xDB, lo8 addr, hi8 addr]
  | .cmpAbsX addr => [0xDD, lo8 addr, hi8 addr]
  | .decAbsX addr => [0xDE, lo8 addr, hi8 addr]
  | .dcpAbsX addr => [0xDF, lo8 addr, hi8 addr]
  | .cpxImm imm => [0xE0, imm]
  | .sbcIndX zp => [0xE1, zp]
  | .isbIndX zp => [0xE3, zp]
  | .cpxZp zp => [0xE4, zp]
  | .sbcZp zp => [0xE5, zp]
  | .incZp zp => [0xE6, zp]
  | .isbZp zp => [0xE7, zp]
  | .inx => [0xE8]
  | .sbcImm imm => [0xE9, imm]
  | .nop => [0xEA]
  | .usbcImm imm => [0xEB, imm]
  | .cpxAbs addr => [0xEC, lo8 addr, hi8 addr]
  | .sbcAbs addr => [0xED, lo8 addr, hi8 addr]
  | .incAbs addr => [0xEE, lo8 addr, hi8 addr]
  | .isbAbs addr => [0xEF, lo8 addr, hi8 addr]
  | .beq off => [0xF0, off]
  | .sbcIndY zp => [0xF1, zp]
  | .isbIndY zp => [0xF3, zp]
  | .sbcZpX zp => [0xF5, zp]
  | .incZpX zp => [0xF6, zp]
  | .isbZpX zp => [0xF7, zp]
  | .sed => [0xF8]
  | .sbcAbsY addr => [0xF9, lo8 addr, hi8 addr]
  | .isbAbsY addr => [0xFB, lo8 addr, hi8 addr]
  | .sbcAbsX addr => [0xFD, lo8 addr, hi8 addr]
  | .incAbsX addr => [0xFE, lo8 addr, hi8 addr]
  | .isbAbsX addr => [0xFF, lo8 addr, hi8 addr]

/-- The longest instruction, in bytes (R90). -/
def maxLength : Nat := 3

/-- The bytes an instruction word of the opcode table lays out in memory: byte k is bits 8k+7..8k of the word, and
every bit from `nbits` on is 0. -/
def tableWordBytes (nbits w : Nat) : List Byte :=
  let v := w % 2 ^ nbits
  [BitVec.ofNat 8 v, BitVec.ofNat 8 (v / 256), BitVec.ofNat 8 (v / 65536)]

/-- The instruction the decoder reads from a word numbered as spec/opcode_table.json numbers it. -/
def decodeTableWord (nbits w : Nat) : Option Instr :=
  match decode (tableWordBytes nbits w) with
  | .ok (i, _) => some i
  | .error _ => none

end Sys2Proof
end

