-- ==== Sys2Proof/Config.lean ====
section
/-! DEFINITION. What is fixed for a machine: the cartridge record and the named parameters of 00_scope.md R8, and
the one free value, the host's controller byte (70_reset_and_hazards.md R361). The State carries a `Config` as plain
data that no step changes (log 1), so that a claim over every state is a claim over every configuration. -/

namespace Sys2Proof

/-- Bytes by address or offset: a list of cells in the canonical form of `Memory.wf` (strictly rising, and no cell
that holds what an unlisted one reads as). -/
abbrev Memory := List Host.Cell

/-- The two PRG-ROM lengths the model admits (20_memory.md R78). -/
inductive PrgSize where
  | kib16
  | kib32
  deriving DecidableEq, Repr

/-- The nametable mirroring mode of the cartridge record (10_state.md R44, 20_memory.md R74). No core rule reads it. -/
inductive Mirroring where
  | horizontal
  | vertical
  | fourScreen
  deriving DecidableEq, Repr

/-- The cartridge record (10_state.md R43, R44): PRG-ROM, which the bus reads, and the fields that are parsed and
recorded but that no core rule reads. -/
structure Cartridge where
  prgSize : PrgSize
  /-- PRG-ROM bytes by PRG offset. -/
  prg : Memory
  chrLen : Nat
  /-- CHR-ROM bytes by CHR offset. -/
  chr : Memory
  mirroring : Mirroring
  persistentRam : Bool
  mapper : Byte
  deriving DecidableEq, Repr

/-- `HOST_CTRL` (R8): whether the host may write 0x00FF at each fetch boundary. -/
inductive HostCtrl where
  | none
  | any
  deriving DecidableEq, Repr

/-- `INT_LINES` (R8): whether the IRQ and NMI inputs can be asserted. -/
inductive IntLines where
  | tiedInactive
  | hostDriven
  deriving DecidableEq, Repr

/-- The parameters of R8 but for `RAM_INIT`, which is an argument of `construct` (log 2). -/
structure Config where
  cart : Cartridge
  /-- `ENTRY_PC`. -/
  entryPc : Option Word
  hostCtrl : HostCtrl
  intLines : IntLines
  /-- `TRACE`. -/
  trace : Bool
  deriving DecidableEq, Repr

/-- A cartridge with one 16 KiB bank of 0x00 bytes and no CHR-ROM. DESIGN CHOICE (log 3), unsafe: the spec gives no
image, and State.reset needs one. -/
def Cartridge.blank : Cartridge :=
  { prgSize := .kib16, prg := [], chrLen := 0, chr := [], mirroring := .horizontal, persistentRam := false, mapper := 0 }

/-- The parameters State.reset takes: the defaults of R8, and no `ENTRY_PC`. DESIGN CHOICE (log 4), unsafe. -/
def Config.atReset : Config :=
  { cart := Cartridge.blank, entryPc := .none, hostCtrl := .none, intLines := .tiedInactive, trace := true }

/-- The controller byte the host sends with its n-th boundary write: "ctrl is any byte, under no law" (R361). A FREE
VALUE (log 5): no body, so no proof can read it. -/
opaque Config.freeCtrl : Nat → Byte

end Sys2Proof
end

