-- ==== Sys2Proof/Machine/Memory.lean ====
section
/-! DEFINITION. Byte storage as plain data (RAM, PRG-ROM and CHR-ROM are each one `Memory`), and the ROM side of the
bus: bank mirroring (20_memory.md R54, R55) and the reset PC (10_state.md R47). -/

namespace Sys2Proof

/-- What a byte that nothing has written reads as. DESIGN CHOICE (log 2): RAM starts as `RAM_INIT`, any value
(20_memory.md R53); a state lists the bytes of `RAM_INIT` that are not 0x00. -/
def Memory.unlisted : Byte := 0x00

/-- The byte at a key. -/
def Memory.read : Memory → Nat → Byte
  | [], _ => Memory.unlisted
  | c :: m, k => if c.1 = k then c.2 else Memory.read m k

/-- The cells but for those at a key. -/
def Memory.erase (m : Memory) (k : Nat) : Memory := m.filter (fun c => decide (c.1 ≠ k))

/-- A cell put before the first cell with a greater key. -/
def Memory.insert : Memory → Nat → Byte → Memory
  | [], k, v => [(k, v)]
  | c :: m, k, v => if k < c.1 then (k, v) :: c :: m else c :: Memory.insert m k v

/-- One byte written; the canonical form is kept (`Memory.wf_write`), so writing the unlisted value removes the cell. -/
def Memory.write (m : Memory) (k : Nat) (v : Byte) : Memory :=
  if v = Memory.unlisted then m.erase k else (m.erase k).insert k v

/-- The canonical form: keys strictly rise, and no cell holds the unlisted value. -/
def Memory.wf : Memory → Bool
  | [] => true
  | c :: m => decide (c.2 ≠ Memory.unlisted) && m.all (fun d => decide (c.1 < d.1)) && Memory.wf m

/-- Every key is below a bound. -/
def Memory.below (m : Memory) (n : Nat) : Bool := m.all (fun c => decide (c.1 < n))

/-- Bytes laid out from a key on, in canonical form. -/
def Memory.ofBytesAt : Nat → List Byte → Memory
  | _, [] => []
  | k, b :: bs => if b = Memory.unlisted then Memory.ofBytesAt (k + 1) bs else (k, b) :: Memory.ofBytesAt (k + 1) bs

/-- Any list of cells as a canonical memory with keys below a bound: cells out of range are dropped, and of two cells
at one key the later one counts. -/
def Memory.normal (n : Nat) (m : Memory) : Memory :=
  m.foldl (fun acc c => if c.1 < n then acc.write c.1 c.2 else acc) []

/-- The PRG-ROM length in bytes (R78). -/
def PrgSize.bytes : PrgSize → Nat
  | .kib16 => 16384
  | .kib32 => 32768

/-- `romOffset(addr)` (R54): with one bank the window is mirrored, with two it is mapped straight. -/
def romOffset (size : PrgSize) (addr : Word) : Nat :=
  let o := addr.toNat - 0x8000
  match size with
  | .kib16 => o % 16384
  | .kib32 => o

/-- The byte the PRG-ROM window shows at an address of 0x8000 or above (R52, R54). -/
def Cartridge.romRead (cart : Cartridge) (addr : Word) : Byte := cart.prg.read (romOffset cart.prgSize addr)

/-- The reset vector's address (R51). -/
def resetVector : Word := 0xFFFC

/-- The PC at reset: `ENTRY_PC` when given, else the word at the reset vector, which lies in the ROM window
(70_reset_and_hazards.md R340). -/
def Config.resetPc (cfg : Config) : Word :=
  match cfg.entryPc with
  | some e => e
  | .none => wordOf (cfg.cart.romRead (resetVector + 1)) (cfg.cart.romRead resetVector)

end Sys2Proof
end

