-- ==== Sys2Proof/Machine/State.lean ====
section
/-! DEFINITION. The state of the core (10_state.md R45), the reasons a step can stop, and the
reset state. -/

namespace Sys2Proof.Machine

/-- The run states (10_state.md R37). -/
inductive RunState where
  | idle
  | running
  | halted
  | faulted
  | jammed
  deriving DecidableEq, Repr

/-- The kinds of 60_exceptions.md R301, with the info recorded beside pc and opcode. -/
inductive FaultKind where
  /-- A write to an address of 0x8000 or above (R302). -/
  | readOnlyViolation (addr : Word) (value : Byte)
  /-- One of the seven unstable opcodes (R303). -/
  | unmodelledOpcode
  /-- A table miss (R304). Unreachable: the table has all 256 entries. -/
  | decodeInvariantViolation
  /-- One of the twelve JAM opcodes (R309): stuck, not a fault. -/
  | jam
  deriving DecidableEq, Repr

/-- The fault record (10_state.md R39): kind and info, the address of the opcode, and the opcode byte. -/
structure FaultRecord where
  kind : FaultKind
  pc : Word
  opcode : Byte
  deriving DecidableEq, Repr

/-- The machine state (R45), with the configuration (log 1) and the model's own draw counter (log 5). -/
structure State where
  /-- Accumulator (R21). -/
  a : Byte
  /-- Index register X (R22). -/
  x : Byte
  /-- Index register Y (R23). -/
  y : Byte
  /-- Stack pointer, the offset into page 0x01 (R24). -/
  sp : Byte
  /-- Program counter; at a fetch boundary, the address of the next opcode (R25). -/
  pc : Word
  /-- Status register N V 1 B D I Z C, read through `getP` so that bit 5 reads 1 (R26, R27). -/
  p : Byte
  /-- RAM by address, 0x0000..0x7FFF (R42). -/
  ram : Memory
  run : RunState
  /-- The host's stop request (R38). -/
  stopReq : Bool
  /-- The fault record, empty unless run is Faulted or Jammed (R39). -/
  fault : Option FaultRecord
  /-- The IRQ level input (R40). -/
  irq : Bool
  /-- The NMI latch (R40). -/
  nmiPending : Bool
  /-- Cartridge and parameters (R8, R43, R44); no step changes it. -/
  cfg : Config
  /-- How many controller bytes have been drawn (log 5): the model's own, no state of the spec. -/
  ctrlDraws : Nat
  deriving DecidableEq, Repr

/-- Why the machine has no next state. All three are safe: they claim nothing about a state after. -/
inductive Fault where
  /-- Raised by `step` in run state Halted: the run has ended, and only reset leaves the state
  (70_reset_and_hazards.md R354). Safe. -/
  | halted
  /-- Raised by `step` in run state Faulted, with the record the faulting instruction left (R355). Safe. -/
  | faulted (record : Option FaultRecord)
  /-- Raised by `step` in run state Jammed, with the record JAM left (R356). Safe. -/
  | jammed (record : Option FaultRecord)
  deriving DecidableEq, Repr

/-- Why the model gives no meaning. -/
inductive Refusal where
  /-- Raised by an arm of `exec` for an instruction without a meaning; no arm does. Safe. -/
  | notModelled (mnemonic : String)
  deriving DecidableEq, Repr

/-- What an instruction or a step answers. -/
abbrev Answer := Host.Outcome State Fault Refusal

/-- The machine right after construction and reset (10_state.md R47, 70_reset_and_hazards.md R340, R341), with the
configuration and RAM the log names (log 2, 3, 4). -/
def State.reset : State :=
  { a := 0x00, x := 0x00, y := 0x00, sp := 0xFD, pc := Config.atReset.resetPc, p := 0x24, ram := [],
    run := .idle, stopReq := false, fault := none, irq := false, nmiPending := false,
    cfg := Config.atReset, ctrlDraws := 0 }

end Sys2Proof.Machine
end

