-- ==== Sys2Proof/Machine/Registers.lean ====
section
/-! DEFINITION. The register file: one setter per field of the state, and the reads and writes of P, whose bit 5 is
hard-wired to 1 (10_state.md R20, R27, R35). -/

namespace Sys2Proof.Machine

/-- Every read of P has bit 5 = 1 (10_state.md R27). -/
def State.getP (s : State) : Byte := s.p ||| 0x20

def State.setA (s : State) (v : Byte) : State := { s with a := v }
def State.setX (s : State) (v : Byte) : State := { s with x := v }
def State.setY (s : State) (v : Byte) : State := { s with y := v }
def State.setSP (s : State) (v : Byte) : State := { s with sp := v }
def State.setPC (s : State) (v : Word) : State := { s with pc := v }
/-- Every write of P leaves bit 5 at 1 (10_state.md R27, R35). -/
def State.setP (s : State) (v : Byte) : State := { s with p := v ||| 0x20 }
def State.setRam (s : State) (v : Memory) : State := { s with ram := v }
def State.setRun (s : State) (v : RunState) : State := { s with run := v }
def State.setStopReq (s : State) (v : Bool) : State := { s with stopReq := v }
def State.setFault (s : State) (v : Option FaultRecord) : State := { s with fault := v }
def State.setIrq (s : State) (v : Bool) : State := { s with irq := v }
def State.setNmiPending (s : State) (v : Bool) : State := { s with nmiPending := v }
def State.setCfg (s : State) (v : Config) : State := { s with cfg := v }
def State.setCtrlDraws (s : State) (v : Nat) : State := { s with ctrlDraws := v }

end Sys2Proof.Machine
end

