-- ==== Sys2Proof/Machine/Flags.lean ====
section
/-! DEFINITION. The flags of P (10_state.md R26 to R35) and every flag computation the spec gives: the zero and
negative helper, the adder, the compare, and the one-bit shifts. -/

namespace Sys2Proof.Machine

/-- The eight bits of P by name (10_state.md R26); `u` is bit 5, the source's break2, always 1. -/
inductive Flag where
  | c
  | z
  | i
  | d
  | b
  | u
  | v
  | n
  deriving DecidableEq, Repr

/-- The bit of P that a flag is (R26). -/
def Flag.bit : Flag → Nat
  | .c => 0
  | .z => 1
  | .i => 2
  | .d => 3
  | .b => 4
  | .u => 5
  | .v => 6
  | .n => 7

/-- The byte with that one bit set. -/
def Flag.mask (f : Flag) : Byte := (1 : Byte) <<< f.bit

/-- `isSet(flag)` (R35). -/
def State.flag (s : State) (f : Flag) : Bool := s.getP.getLsbD f.bit

/-- `set(flag)` and `clear(flag)` (R35). Bit 5 stays 1, so clearing `u` has no effect (R27). -/
def State.putFlag (s : State) (f : Flag) (on : Bool) : State :=
  s.setP (if on then s.getP ||| f.mask else s.getP &&& ~~~f.mask)

/-- `SetZN(r)` (40_core_and_addressing.md R146). -/
def State.setZN (s : State) (r : Byte) : State := (s.putFlag .z (r == 0)).putFlag .n r.msb

/-- The 9-bit sum of the adder, an exact number 0..511 (43_arithmetic_logic.md R195). -/
def adderSum (a m : Byte) (c : Bool) : Nat := a.toNat + m.toNat + c.toNat

/-- The adder's result byte (R195). -/
def adderResult (a m : Byte) (c : Bool) : Byte := BitVec.ofNat 8 (adderSum a m c)

/-- The adder's carry out (R195). -/
def adderCarry (a m : Byte) (c : Bool) : Bool := decide (adderSum a m c > 0xFF)

/-- The adder's overflow, from the operand, the result and the old accumulator (R195). -/
def adderOverflow (a m r : Byte) : Bool := decide (((m ^^^ r) &&& (r ^^^ a) &&& 0x80) ≠ 0)

/-- `AddWithCarry(m)` (R195). P.D is not read: the adder is binary. -/
def State.addWithCarry (s : State) (m : Byte) : State :=
  let r := adderResult s.a m (s.flag .c)
  let t := s.putFlag .c (adderCarry s.a m (s.flag .c))
  let t := t.putFlag .v (adderOverflow s.a m r)
  (t.setA r).setZN r

/-- `Compare(R, M)` (40_core_and_addressing.md R148). -/
def State.compare (s : State) (reg m : Byte) : State := (s.putFlag .c (decide (reg.toNat ≥ m.toNat))).setZN (reg - m)

/-- The flag part of a shift or rotate: carry, then zero and negative of the result (44_shift_rotate.md R214). -/
def State.shiftFlags (s : State) (r : Byte) (c : Bool) : State := (s.putFlag .c c).setZN r

/-- ASL's `f(v, c0)`: result and carry (44_shift_rotate.md R210). -/
def aslStep (v : Byte) (_ : Bool) : Byte × Bool := (v <<< 1, v.getLsbD 7)

/-- LSR's `f(v, c0)` (R211). -/
def lsrStep (v : Byte) (_ : Bool) : Byte × Bool := (v >>> 1, v.getLsbD 0)

/-- ROL's `f(v, c0)`: the old carry enters bit 0 (R212). -/
def rolStep (v : Byte) (c0 : Bool) : Byte × Bool := ((v <<< 1) ||| (BitVec.ofBool c0).zeroExtend 8, v.getLsbD 7)

/-- ROR's `f(v, c0)`: the old carry enters bit 7 (R213). -/
def rorStep (v : Byte) (c0 : Bool) : Byte × Bool := ((v >>> 1) ||| ((BitVec.ofBool c0).zeroExtend 8 <<< 7), v.getLsbD 0)

end Sys2Proof.Machine
end

