-- ==== Sys2Proof/Machine/Ops.lean ====
section
/-! DEFINITION. The operations every meaning is written over: bus reads and writes, the stack, raising a fault,
jamming, taking an interrupt or BRK, returning from one, and how a handler ends. -/

namespace Sys2Proof.Machine

/-- `MemRead(addr, 1)` (20_memory.md R52). A read never faults and has no side effect (R58). -/
def State.read (s : State) (addr : Word) : Byte :=
  if addr.toNat < 0x8000 then s.ram.read addr.toNat else s.cfg.cart.romRead addr

/-- `MemRead(addr, 2)`, little-endian, the second byte at `addr +% 1` (R60). -/
def State.read16 (s : State) (addr : Word) : Word := wordOf (s.read (addr + 1)) (s.read addr)

/-- `MemRead16ZP(p)`: the pointer read wraps within page zero (R62). -/
def State.read16ZP (s : State) (ptr : Byte) : Word := wordOf (s.read (zext16 (ptr + 1))) (s.read (zext16 ptr))

/-- `MemWrite(addr, 1, v)` (R56): `none` where it raises `ReadOnlyViolation(addr, v)`. -/
def State.write (s : State) (addr : Word) (v : Byte) : Option State :=
  if addr.toNat < 0x8000 then some (s.setRam (s.ram.write addr.toNat v)) else none

/-- `MemWrite(addr, 2, v)`: the low byte, then the high byte at `addr +% 1` (R61). No instruction uses it. -/
def State.write16 (s : State) (addr : Word) (v : Word) : Option State :=
  (s.write addr (lo8 v)).bind (fun t => t.write (addr + 1) (hi8 v))

/-- The stack byte's address for an SP, `0x0100 + SP` (R63). -/
def stackAddr (sp : Byte) : Word := 0x0100 + zext16 sp

/-- `Push(v)`: write at SP, then decrement (R64). The stack page is RAM, so the write cannot fail (R63). -/
def State.push (s : State) (v : Byte) : State :=
  (s.setRam (s.ram.write (stackAddr s.sp).toNat v)).setSP (s.sp - 1)

/-- `Pop()`: increment SP, then read (R65). The byte, and the state with the new SP. -/
def State.pop (s : State) : Byte × State :=
  (s.read (stackAddr (s.sp + 1)), s.setSP (s.sp + 1))

/-- Push a word, the high byte first (45_control_flow.md R222, R226). -/
def State.pushWord (s : State) (w : Word) : State := (s.push (hi8 w)).push (lo8 w)

/-- Pull a word, the low byte first (R223, R227). -/
def State.popWord (s : State) : Word × State :=
  let lo := s.pop
  let hi := lo.2.pop
  (wordOf hi.1 lo.1, hi.2)

/-- The record's numeric code (60_exceptions.md R301). -/
def FaultKind.code : FaultKind → Nat
  | .readOnlyViolation _ _ => 1
  | .unmodelledOpcode => 2
  | .decodeInvariantViolation => 3
  | .jam => 4

/-- `raise F(info)` (60_exceptions.md R306), for a state that still is that of the fetch boundary: run becomes
Faulted and the record is set; PC stays the opcode's address and nothing else changes. -/
def State.takeFault (s : State) (kind : FaultKind) (opcode : Byte) : State :=
  (s.setRun .faulted).setFault (some { kind := kind, pc := s.pc, opcode := opcode })

/-- A JAM opcode (60_exceptions.md R309): run becomes Jammed, the record is set, PC is the opcode's address + 1. -/
def State.takeJam (s : State) (opcode : Byte) : State :=
  ((s.setRun .jammed).setFault (some { kind := .jam, pc := s.pc, opcode := opcode })).setPC (s.pc + 1)

/-- The vectors (20_memory.md R51). -/
def nmiVector : Word := 0xFFFA
def irqVector : Word := 0xFFFE

/-- The common entry of BRK, IRQ and NMI (45_control_flow.md R226, 60_exceptions.md R318): push the return address,
high byte first, push a copy of P, set I, and load PC from a vector. -/
def State.enterHandler (s : State) (ret : Word) (pushedP : Byte) (vector : Word) : State :=
  let t := ((s.pushWord ret).push pushedP).putFlag .i true
  t.setPC (t.read16 vector)

/-- The copy of P that PHP and BRK push, with bits 4 and 5 set (42_stack.md R171, 45_control_flow.md R226). -/
def State.pushedByBreak (s : State) : Byte := s.getP ||| 0x30

/-- The copy of P that interrupt entry pushes: B = 0, bit 5 = 1 (60_exceptions.md R318). -/
def State.pushedByInterrupt (s : State) : Byte := (s.getP &&& 0xEF) ||| 0x20

/-- The restoring of P by PLP and RTI: clear B, set bit 5 (42_stack.md R173, 45_control_flow.md R227). -/
def State.restoreP (s : State) (v : Byte) : State := s.setP ((v &&& 0xEF) ||| 0x20)

/-- The return from BRK or an interrupt (R227): pull P, then PC, low byte first, with no + 1. -/
def State.returnFromHandler (s : State) : State :=
  let v := s.pop
  let pc := (v.2.restoreP v.1).popWord
  pc.2.setPC pc.1

/-- The step's last act for an opcode that does not own PC: PC becomes `a +% length`
(40_core_and_addressing.md R122, R123). -/
def State.advance (s : State) (length : Word) : State := s.setPC (s.pc + length)

/-- A byte put on the bus from outside, RAM or ROM: the loading of a program (log 9). No instruction uses it. -/
def State.placeByte (s : State) (addr : Word) (v : Byte) : State :=
  if addr.toNat < 0x8000 then s.setRam (s.ram.write addr.toNat v)
  else
    let cart := s.cfg.cart
    s.setCfg { s.cfg with cart := { cart with prg := cart.prg.write (romOffset cart.prgSize addr) v } }

end Sys2Proof.Machine
end

