-- ==== Sys2Proof/Machine/Boundary.lean ====
section
/-! DEFINITION. The fetch boundary of 40_core_and_addressing.md R120: which event comes first, interrupt entry, the
host's controller write, and the fetch of an instruction's bytes. -/

namespace Sys2Proof.Machine

/-- `InterruptPending()` (60_exceptions.md R317). With `INT_LINES = tied_inactive` it is always false (R314). -/
def State.interruptPending (s : State) : Bool :=
  match s.cfg.intLines with
  | .tiedInactive => false
  | .hostDriven => s.nmiPending || (s.irq && !s.flag .i)

/-- `InterruptEntry()` (R318): NMI before IRQ, and NMI clears its latch. -/
def State.interruptEntry (s : State) : State :=
  if s.nmiPending then (s.setNmiPending false).enterHandler s.pc s.pushedByInterrupt nmiVector
  else s.enterHandler s.pc s.pushedByInterrupt irqVector

/-- The halt sentinel (70_reset_and_hazards.md R352). -/
def sentinelPc : Word := 0xFFFF

/-- The controller byte's address (20_memory.md R59). -/
def ctrlAddr : Word := 0x00FF

/-- `HostBoundary(ctrl)` (70_reset_and_hazards.md R361). With `HOST_CTRL = any` it writes the byte and counts the
draw (log 5); 0x00FF is RAM, so the write never faults. -/
def State.hostBoundary (s : State) (ctrl : Byte) : State :=
  match s.cfg.hostCtrl with
  | .none => s
  | .any => (s.setRam (s.ram.write ctrlAddr.toNat ctrl)).setCtrlDraws (s.ctrlDraws + 1)

/-- What a step does at the boundary, in the order of R120 and R317. -/
inductive Boundary where
  /-- The run state has no step (R354 to R356). -/
  | noStep (why : Fault)
  /-- The stop request or the sentinel (R353, R352). -/
  | halt
  /-- An interrupt is taken in place of an instruction (R318). -/
  | interrupt
  /-- The instruction at PC is fetched. -/
  | fetch
  deriving DecidableEq, Repr

/-- The first event of this boundary. -/
def State.boundary (s : State) : Boundary :=
  match s.run with
  | .halted => .noStep .halted
  | .faulted => .noStep (.faulted s.fault)
  | .jammed => .noStep (.jammed s.fault)
  | .idle | .running =>
    if s.stopReq then .halt
    else if s.pc = sentinelPc then .halt
    else if s.interruptPending then .interrupt
    else .fetch

/-- `run <- Halted` (R120). -/
def State.halt (s : State) : State := s.setRun .halted

/-- `run <- Running` (R120, R350). -/
def State.enterRunning (s : State) : State := s.setRun .running

/-- The state an instruction starts from: Running, after the host's write. -/
def State.readyToFetch (s : State) (ctrl : Byte) : State := s.enterRunning.hostBoundary ctrl

/-- The opcode and the two bytes after it, each address taken modulo 65536 (30_encoding.md R91, R104); the decoder
takes as many as the opcode's length. -/
def State.fetchBytes (s : State) : List Byte := [s.read s.pc, s.read (s.pc + 1), s.read (s.pc + 2)]

/-- A decode miss (60_exceptions.md R304); unreachable, since the table has every opcode. -/
def State.decodeMiss (s : State) : State := s.takeFault .decodeInvariantViolation (s.read s.pc)

end Sys2Proof.Machine
end

