-- ==== Sys2Proof/Machine/Operands.lean ====
section
/-! DEFINITION. Addressing-mode resolution (40_core_and_addressing.md R130 to R144) and operand access by instruction
class (R145). The operand bytes are those the decoder read (R121: a handler reads them before it writes, log 7). -/

namespace Sys2Proof.Machine

/-- The operand forms with an effective address, each with the bytes that stand in the instruction (30_encoding.md
R92, R93). Implied and accumulator have none (R143); indirect and relative give a jump target, below. -/
inductive Operand where
  | imm (b : Byte)
  | zp (b : Byte)
  | zpX (b : Byte)
  | zpY (b : Byte)
  | abs (w : Word)
  | absX (w : Word)
  | absY (w : Word)
  | indX (b : Byte)
  | indY (b : Byte)
  deriving DecidableEq, Repr

/-- The instruction's length in bytes, fixed by the mode (30_encoding.md R92, R104). -/
def Operand.length : Operand → Word
  | .imm _ => 2
  | .zp _ => 2
  | .zpX _ => 2
  | .zpY _ => 2
  | .abs _ => 3
  | .absX _ => 3
  | .absY _ => 3
  | .indX _ => 2
  | .indY _ => 2

/-- The effective address, from the state at the fetch boundary (PC is the opcode's address): immediate R131,
zeroPage R132, zeroPageX R133, zeroPageY R134, absolute R135, absoluteX R136, absoluteY R137, indirectX R141,
indirectY R142. -/
def Operand.ea (s : State) : Operand → Word
  | .imm _ => s.pc + 1
  | .zp b => zext16 b
  | .zpX b => zext16 (b + s.x)
  | .zpY b => zext16 (b + s.y)
  | .abs w => w
  | .absX w => w + zext16 s.x
  | .absY w => w + zext16 s.y
  | .indX b => s.read16ZP (b + s.x)
  | .indY b => s.read16ZP b + zext16 s.y

/-- The operand byte M (R145): the byte at the effective address; for immediate, the instruction's own (R131). -/
def Operand.value (s : State) : Operand → Byte
  | .imm b => b
  | .zp b => s.read (Operand.ea s (.zp b))
  | .zpX b => s.read (Operand.ea s (.zpX b))
  | .zpY b => s.read (Operand.ea s (.zpY b))
  | .abs w => s.read (Operand.ea s (.abs w))
  | .absX w => s.read (Operand.ea s (.absX w))
  | .absY w => s.read (Operand.ea s (.absY w))
  | .indX b => s.read (Operand.ea s (.indX b))
  | .indY b => s.read (Operand.ea s (.indY b))

/-- `JmpIndirectTarget(ptr)`, with the page bug (R139, R140). -/
def State.jmpIndirectTarget (s : State) (ptr : Word) : Word :=
  wordOf (s.read (if lo8 ptr = 0xFF then ptr &&& 0xFF00 else ptr + 1)) (s.read ptr)

/-- `BranchTarget()`: the address after the branch plus the signed offset, by the source's formula (R144). -/
def State.branchTarget (s : State) (off : Byte) : Word := (s.pc + 2 + zext16 (off ^^^ 0x80)) - 0x80

/-- How an implied or accumulator instruction of length 1 runs (R143). -/
def runImplied (handler : State → State) (s : State) : Answer := .next ((handler s).advance 1)

/-- How a read instruction runs: M is read once and given to the handler (R145). -/
def runRead (handler : Byte → State → State) (o : Operand) (s : State) : Answer :=
  .next ((handler (Operand.value s o) s).advance o.length)

/-- How an instruction that writes one byte at its effective address runs: the write is the first change of state;
where it raises `ReadOnlyViolation`, nothing of the instruction is kept (R145, 60_exceptions.md R306). -/
def runWrite (opcode : Byte) (o : Operand) (v : Byte) (after : State → State) (s : State) : Answer :=
  match s.write (Operand.ea s o) v with
  | some t => .next ((after t).advance o.length)
  | none => .next (s.takeFault (.readOnlyViolation (Operand.ea s o) v) opcode)

/-- How a store runs (R145): it writes once and changes nothing else. -/
def runStore (opcode : Byte) (o : Operand) (v : Byte) (s : State) : Answer := runWrite opcode o v id s

/-- How a read-modify-write instruction in a memory form runs (R145, R147, 44_shift_rotate.md R214): `f` gives the
byte to write and a carry from M and P.C, and `after` takes both. -/
def runModify (opcode : Byte) (f : Byte → Bool → Byte × Bool) (after : Byte → Bool → State → State) (o : Operand)
    (s : State) : Answer :=
  let r := f (Operand.value s o) (s.flag .c)
  runWrite opcode o r.1 (after r.1 r.2) s

/-- `Branch(cond)` (45_control_flow.md R228). -/
def runBranch (cond : Bool) (off : Byte) (s : State) : Answer :=
  .next (s.setPC (if cond then s.branchTarget off else s.pc + 2))

end Sys2Proof.Machine
end

