-- ==== Sys2Proof/Machine/Arith.lean ====
section
/-! DEFINITION. Arithmetic, logic, compare, increment and decrement (43_arithmetic_logic.md R180 to R196). -/

namespace Sys2Proof.Machine

/-- ADC (R180). -/
def addA (m : Byte) (s : State) : State := s.addWithCarry m

/-- SBC: the adder on the inverted operand (R181). -/
def subtractA (m : Byte) (s : State) : State := s.addWithCarry (m ^^^ 0xFF)

/-- AND (R182). -/
def andA (m : Byte) (s : State) : State := (s.setA (s.a &&& m)).setZN (s.a &&& m)

/-- ORA (R183). -/
def orA (m : Byte) (s : State) : State := (s.setA (s.a ||| m)).setZN (s.a ||| m)

/-- EOR (R184). -/
def xorA (m : Byte) (s : State) : State := (s.setA (s.a ^^^ m)).setZN (s.a ^^^ m)

/-- BIT: Z from `A & M`, V and N from bits 6 and 7 of M (R185). -/
def testBits (m : Byte) (s : State) : State :=
  ((s.putFlag .z ((s.a &&& m) == 0)).putFlag .v (m.getLsbD 6)).putFlag .n (m.getLsbD 7)

/-- CMP (R186). -/
def compareA (m : Byte) (s : State) : State := s.compare s.a m

/-- CPX (R187). -/
def compareX (m : Byte) (s : State) : State := s.compare s.x m

/-- CPY (R188). -/
def compareY (m : Byte) (s : State) : State := s.compare s.y m

/-- `M +% 1`, with no carry (R189). -/
def increment (m : Byte) (_ : Bool) : Byte × Bool := (m + 1, false)

/-- `M -% 1`, with no carry (R190). -/
def decrement (m : Byte) (_ : Bool) : Byte × Bool := (m - 1, false)

/-- The flags of INC and DEC: Z and N of the byte written; C is unchanged (R189, R190). -/
def setCounted (r : Byte) (_ : Bool) (s : State) : State := s.setZN r

/-- INX (R191). -/
def incrementX (s : State) : State := (s.setX (s.x + 1)).setZN (s.x + 1)

/-- INY (R192). -/
def incrementY (s : State) : State := (s.setY (s.y + 1)).setZN (s.y + 1)

/-- DEX (R193). -/
def decrementX (s : State) : State := (s.setX (s.x - 1)).setZN (s.x - 1)

/-- DEY (R194). -/
def decrementY (s : State) : State := (s.setY (s.y - 1)).setZN (s.y - 1)

/-- ADC indirectX, 0x61 (R180). -/
def execAdcIndX (zp : Byte) (s : State) : Answer := runRead addA (.indX zp) s

/-- ADC zeroPage, 0x65 (R180). -/
def execAdcZp (zp : Byte) (s : State) : Answer := runRead addA (.zp zp) s

/-- ADC immediate, 0x69 (R180). -/
def execAdcImm (imm : Byte) (s : State) : Answer := runRead addA (.imm imm) s

/-- ADC absolute, 0x6D (R180). -/
def execAdcAbs (addr : Word) (s : State) : Answer := runRead addA (.abs addr) s

/-- ADC indirectY, 0x71 (R180). -/
def execAdcIndY (zp : Byte) (s : State) : Answer := runRead addA (.indY zp) s

/-- ADC zeroPageX, 0x75 (R180). -/
def execAdcZpX (zp : Byte) (s : State) : Answer := runRead addA (.zpX zp) s

/-- ADC absoluteY, 0x79 (R180). -/
def execAdcAbsY (addr : Word) (s : State) : Answer := runRead addA (.absY addr) s

/-- ADC absoluteX, 0x7D (R180). -/
def execAdcAbsX (addr : Word) (s : State) : Answer := runRead addA (.absX addr) s

/-- SBC indirectX, 0xE1 (R181). -/
def execSbcIndX (zp : Byte) (s : State) : Answer := runRead subtractA (.indX zp) s

/-- SBC zeroPage, 0xE5 (R181). -/
def execSbcZp (zp : Byte) (s : State) : Answer := runRead subtractA (.zp zp) s

/-- SBC immediate, 0xE9 (R181). -/
def execSbcImm (imm : Byte) (s : State) : Answer := runRead subtractA (.imm imm) s

/-- SBC absolute, 0xED (R181). -/
def execSbcAbs (addr : Word) (s : State) : Answer := runRead subtractA (.abs addr) s

/-- SBC indirectY, 0xF1 (R181). -/
def execSbcIndY (zp : Byte) (s : State) : Answer := runRead subtractA (.indY zp) s

/-- SBC zeroPageX, 0xF5 (R181). -/
def execSbcZpX (zp : Byte) (s : State) : Answer := runRead subtractA (.zpX zp) s

/-- SBC absoluteY, 0xF9 (R181). -/
def execSbcAbsY (addr : Word) (s : State) : Answer := runRead subtractA (.absY addr) s

/-- SBC absoluteX, 0xFD (R181). -/
def execSbcAbsX (addr : Word) (s : State) : Answer := runRead subtractA (.absX addr) s

/-- AND indirectX, 0x21 (R182). -/
def execAndIndX (zp : Byte) (s : State) : Answer := runRead andA (.indX zp) s

/-- AND zeroPage, 0x25 (R182). -/
def execAndZp (zp : Byte) (s : State) : Answer := runRead andA (.zp zp) s

/-- AND immediate, 0x29 (R182). -/
def execAndImm (imm : Byte) (s : State) : Answer := runRead andA (.imm imm) s

/-- AND absolute, 0x2D (R182). -/
def execAndAbs (addr : Word) (s : State) : Answer := runRead andA (.abs addr) s

/-- AND indirectY, 0x31 (R182). -/
def execAndIndY (zp : Byte) (s : State) : Answer := runRead andA (.indY zp) s

/-- AND zeroPageX, 0x35 (R182). -/
def execAndZpX (zp : Byte) (s : State) : Answer := runRead andA (.zpX zp) s

/-- AND absoluteY, 0x39 (R182). -/
def execAndAbsY (addr : Word) (s : State) : Answer := runRead andA (.absY addr) s

/-- AND absoluteX, 0x3D (R182). -/
def execAndAbsX (addr : Word) (s : State) : Answer := runRead andA (.absX addr) s

/-- ORA indirectX, 0x01 (R183). -/
def execOraIndX (zp : Byte) (s : State) : Answer := runRead orA (.indX zp) s

/-- ORA zeroPage, 0x05 (R183). -/
def execOraZp (zp : Byte) (s : State) : Answer := runRead orA (.zp zp) s

/-- ORA immediate, 0x09 (R183). -/
def execOraImm (imm : Byte) (s : State) : Answer := runRead orA (.imm imm) s

/-- ORA absolute, 0x0D (R183). -/
def execOraAbs (addr : Word) (s : State) : Answer := runRead orA (.abs addr) s

/-- ORA indirectY, 0x11 (R183). -/
def execOraIndY (zp : Byte) (s : State) : Answer := runRead orA (.indY zp) s

/-- ORA zeroPageX, 0x15 (R183). -/
def execOraZpX (zp : Byte) (s : State) : Answer := runRead orA (.zpX zp) s

/-- ORA absoluteY, 0x19 (R183). -/
def execOraAbsY (addr : Word) (s : State) : Answer := runRead orA (.absY addr) s

/-- ORA absoluteX, 0x1D (R183). -/
def execOraAbsX (addr : Word) (s : State) : Answer := runRead orA (.absX addr) s

/-- EOR indirectX, 0x41 (R184). -/
def execEorIndX (zp : Byte) (s : State) : Answer := runRead xorA (.indX zp) s

/-- EOR zeroPage, 0x45 (R184). -/
def execEorZp (zp : Byte) (s : State) : Answer := runRead xorA (.zp zp) s

/-- EOR immediate, 0x49 (R184). -/
def execEorImm (imm : Byte) (s : State) : Answer := runRead xorA (.imm imm) s

/-- EOR absolute, 0x4D (R184). -/
def execEorAbs (addr : Word) (s : State) : Answer := runRead xorA (.abs addr) s

/-- EOR indirectY, 0x51 (R184). -/
def execEorIndY (zp : Byte) (s : State) : Answer := runRead xorA (.indY zp) s

/-- EOR zeroPageX, 0x55 (R184). -/
def execEorZpX (zp : Byte) (s : State) : Answer := runRead xorA (.zpX zp) s

/-- EOR absoluteY, 0x59 (R184). -/
def execEorAbsY (addr : Word) (s : State) : Answer := runRead xorA (.absY addr) s

/-- EOR absoluteX, 0x5D (R184). -/
def execEorAbsX (addr : Word) (s : State) : Answer := runRead xorA (.absX addr) s

/-- BIT zeroPage, 0x24 (R185). -/
def execBitZp (zp : Byte) (s : State) : Answer := runRead testBits (.zp zp) s

/-- BIT absolute, 0x2C (R185). -/
def execBitAbs (addr : Word) (s : State) : Answer := runRead testBits (.abs addr) s

/-- CMP indirectX, 0xC1 (R186). -/
def execCmpIndX (zp : Byte) (s : State) : Answer := runRead compareA (.indX zp) s

/-- CMP zeroPage, 0xC5 (R186). -/
def execCmpZp (zp : Byte) (s : State) : Answer := runRead compareA (.zp zp) s

/-- CMP immediate, 0xC9 (R186). -/
def execCmpImm (imm : Byte) (s : State) : Answer := runRead compareA (.imm imm) s

/-- CMP absolute, 0xCD (R186). -/
def execCmpAbs (addr : Word) (s : State) : Answer := runRead compareA (.abs addr) s

/-- CMP indirectY, 0xD1 (R186). -/
def execCmpIndY (zp : Byte) (s : State) : Answer := runRead compareA (.indY zp) s

/-- CMP zeroPageX, 0xD5 (R186). -/
def execCmpZpX (zp : Byte) (s : State) : Answer := runRead compareA (.zpX zp) s

/-- CMP absoluteY, 0xD9 (R186). -/
def execCmpAbsY (addr : Word) (s : State) : Answer := runRead compareA (.absY addr) s

/-- CMP absoluteX, 0xDD (R186). -/
def execCmpAbsX (addr : Word) (s : State) : Answer := runRead compareA (.absX addr) s

/-- CPX immediate, 0xE0 (R187). -/
def execCpxImm (imm : Byte) (s : State) : Answer := runRead compareX (.imm imm) s

/-- CPX zeroPage, 0xE4 (R187). -/
def execCpxZp (zp : Byte) (s : State) : Answer := runRead compareX (.zp zp) s

/-- CPX absolute, 0xEC (R187). -/
def execCpxAbs (addr : Word) (s : State) : Answer := runRead compareX (.abs addr) s

/-- CPY immediate, 0xC0 (R188). -/
def execCpyImm (imm : Byte) (s : State) : Answer := runRead compareY (.imm imm) s

/-- CPY zeroPage, 0xC4 (R188). -/
def execCpyZp (zp : Byte) (s : State) : Answer := runRead compareY (.zp zp) s

/-- CPY absolute, 0xCC (R188). -/
def execCpyAbs (addr : Word) (s : State) : Answer := runRead compareY (.abs addr) s

/-- INC zeroPage, 0xE6 (R189). -/
def execIncZp (zp : Byte) (s : State) : Answer := runModify 0xE6 increment setCounted (.zp zp) s

/-- INC absolute, 0xEE (R189). -/
def execIncAbs (addr : Word) (s : State) : Answer := runModify 0xEE increment setCounted (.abs addr) s

/-- INC zeroPageX, 0xF6 (R189). -/
def execIncZpX (zp : Byte) (s : State) : Answer := runModify 0xF6 increment setCounted (.zpX zp) s

/-- INC absoluteX, 0xFE (R189). -/
def execIncAbsX (addr : Word) (s : State) : Answer := runModify 0xFE increment setCounted (.absX addr) s

/-- DEC zeroPage, 0xC6 (R190). -/
def execDecZp (zp : Byte) (s : State) : Answer := runModify 0xC6 decrement setCounted (.zp zp) s

/-- DEC absolute, 0xCE (R190). -/
def execDecAbs (addr : Word) (s : State) : Answer := runModify 0xCE decrement setCounted (.abs addr) s

/-- DEC zeroPageX, 0xD6 (R190). -/
def execDecZpX (zp : Byte) (s : State) : Answer := runModify 0xD6 decrement setCounted (.zpX zp) s

/-- DEC absoluteX, 0xDE (R190). -/
def execDecAbsX (addr : Word) (s : State) : Answer := runModify 0xDE decrement setCounted (.absX addr) s

/-- INX implied, 0xE8 (R191). -/
def execInx (s : State) : Answer := runImplied incrementX s

/-- INY implied, 0xC8 (R192). -/
def execIny (s : State) : Answer := runImplied incrementY s

/-- DEX implied, 0xCA (R193). -/
def execDex (s : State) : Answer := runImplied decrementX s

/-- DEY implied, 0x88 (R194). -/
def execDey (s : State) : Answer := runImplied decrementY s

end Sys2Proof.Machine
end

