-- ==== Sys2Proof/Machine/Control.lean ====
section
/-! DEFINITION. Jumps, subroutines, BRK, RTI and branches (45_control_flow.md R220 to R236). Every
meaning here sets PC itself (40_core_and_addressing.md R124); the address of the opcode is the PC it starts from. -/

namespace Sys2Proof.Machine

/-- JMP absolute, 0x4C (R220). -/
def execJmpAbs (addr : Word) (s : State) : Answer := .next (s.setPC addr)

/-- JMP indirect, 0x6C (R221). -/
def execJmpInd (ptr : Word) (s : State) : Answer := .next (s.setPC (s.jmpIndirectTarget ptr))

/-- JSR absolute, 0x20 (R222). -/
def execJsrAbs (addr : Word) (s : State) : Answer := .next ((s.pushWord (s.pc + 2)).setPC addr)

/-- RTS implied, 0x60 (R223). -/
def execRts (s : State) : Answer := .next (s.popWord.2.setPC (s.popWord.1 + 1))

/-- BRK implied, 0x00 (R226). -/
def execBrk (s : State) : Answer := .next (s.enterHandler (s.pc + 2) s.pushedByBreak irqVector)

/-- RTI implied, 0x40 (R227). -/
def execRti (s : State) : Answer := .next s.returnFromHandler

/-- BPL relative, 0x10 (R229). -/
def execBpl (off : Byte) (s : State) : Answer := runBranch (!s.flag .n) off s

/-- BMI relative, 0x30 (R230). -/
def execBmi (off : Byte) (s : State) : Answer := runBranch (s.flag .n) off s

/-- BVC relative, 0x50 (R231). -/
def execBvc (off : Byte) (s : State) : Answer := runBranch (!s.flag .v) off s

/-- BVS relative, 0x70 (R232). -/
def execBvs (off : Byte) (s : State) : Answer := runBranch (s.flag .v) off s

/-- BCC relative, 0x90 (R233). -/
def execBcc (off : Byte) (s : State) : Answer := runBranch (!s.flag .c) off s

/-- BCS relative, 0xB0 (R234). -/
def execBcs (off : Byte) (s : State) : Answer := runBranch (s.flag .c) off s

/-- BNE relative, 0xD0 (R235). -/
def execBne (off : Byte) (s : State) : Answer := runBranch (!s.flag .z) off s

/-- BEQ relative, 0xF0 (R236). -/
def execBeq (off : Byte) (s : State) : Answer := runBranch (s.flag .z) off s

end Sys2Proof.Machine
end

