-- ==== Sys2Proof/Machine/FlagsNop.lean ====
section
/-! DEFINITION. The flag instructions and the documented NOP (46_flags_nop.md R250 to R257). -/

namespace Sys2Proof.Machine

/-- CLC implied, 0x18 (R250). -/
def execClc (s : State) : Answer := runImplied (fun t => t.putFlag .c false) s

/-- SEC implied, 0x38 (R251). -/
def execSec (s : State) : Answer := runImplied (fun t => t.putFlag .c true) s

/-- CLI implied, 0x58 (R252). -/
def execCli (s : State) : Answer := runImplied (fun t => t.putFlag .i false) s

/-- SEI implied, 0x78 (R253). -/
def execSei (s : State) : Answer := runImplied (fun t => t.putFlag .i true) s

/-- CLD implied, 0xD8 (R254). -/
def execCld (s : State) : Answer := runImplied (fun t => t.putFlag .d false) s

/-- SED implied, 0xF8 (R255). -/
def execSed (s : State) : Answer := runImplied (fun t => t.putFlag .d true) s

/-- CLV implied, 0xB8 (R256). -/
def execClv (s : State) : Answer := runImplied (fun t => t.putFlag .v false) s

/-- NOP implied, 0xEA (R257). -/
def execNop (s : State) : Answer := runImplied id s

end Sys2Proof.Machine
end

