-- ==== Sys2Proof/Machine/LoadStore.lean ====
section
/-! DEFINITION. Loads, stores and register transfers (41_load_store_transfer.md R150 to R161). -/

namespace Sys2Proof.Machine

/-- LDA's `A <- M; SetZN(A)` (R150). -/
def loadA (m : Byte) (s : State) : State := (s.setA m).setZN m

/-- LDX's `X <- M; SetZN(X)` (R151). -/
def loadX (m : Byte) (s : State) : State := (s.setX m).setZN m

/-- LDY's `Y <- M; SetZN(Y)` (R152). -/
def loadY (m : Byte) (s : State) : State := (s.setY m).setZN m

/-- TAX (R156). -/
def transferAX (s : State) : State := (s.setX s.a).setZN s.a

/-- TAY (R157). -/
def transferAY (s : State) : State := (s.setY s.a).setZN s.a

/-- TXA (R158). -/
def transferXA (s : State) : State := (s.setA s.x).setZN s.x

/-- TYA (R159). -/
def transferYA (s : State) : State := (s.setA s.y).setZN s.y

/-- TSX (R160). -/
def transferSX (s : State) : State := (s.setX s.sp).setZN s.sp

/-- TXS: the only transfer that sets no flag (R161). -/
def transferXS (s : State) : State := s.setSP s.x

/-- LDA indirectX, 0xA1 (R150). -/
def execLdaIndX (zp : Byte) (s : State) : Answer := runRead loadA (.indX zp) s

/-- LDA zeroPage, 0xA5 (R150). -/
def execLdaZp (zp : Byte) (s : State) : Answer := runRead loadA (.zp zp) s

/-- LDA immediate, 0xA9 (R150). -/
def execLdaImm (imm : Byte) (s : State) : Answer := runRead loadA (.imm imm) s

/-- LDA absolute, 0xAD (R150). -/
def execLdaAbs (addr : Word) (s : State) : Answer := runRead loadA (.abs addr) s

/-- LDA indirectY, 0xB1 (R150). -/
def execLdaIndY (zp : Byte) (s : State) : Answer := runRead loadA (.indY zp) s

/-- LDA zeroPageX, 0xB5 (R150). -/
def execLdaZpX (zp : Byte) (s : State) : Answer := runRead loadA (.zpX zp) s

/-- LDA absoluteY, 0xB9 (R150). -/
def execLdaAbsY (addr : Word) (s : State) : Answer := runRead loadA (.absY addr) s

/-- LDA absoluteX, 0xBD (R150). -/
def execLdaAbsX (addr : Word) (s : State) : Answer := runRead loadA (.absX addr) s

/-- LDX immediate, 0xA2 (R151). -/
def execLdxImm (imm : Byte) (s : State) : Answer := runRead loadX (.imm imm) s

/-- LDX zeroPage, 0xA6 (R151). -/
def execLdxZp (zp : Byte) (s : State) : Answer := runRead loadX (.zp zp) s

/-- LDX absolute, 0xAE (R151). -/
def execLdxAbs (addr : Word) (s : State) : Answer := runRead loadX (.abs addr) s

/-- LDX zeroPageY, 0xB6 (R151). -/
def execLdxZpY (zp : Byte) (s : State) : Answer := runRead loadX (.zpY zp) s

/-- LDX absoluteY, 0xBE (R151). -/
def execLdxAbsY (addr : Word) (s : State) : Answer := runRead loadX (.absY addr) s

/-- LDY immediate, 0xA0 (R152). -/
def execLdyImm (imm : Byte) (s : State) : Answer := runRead loadY (.imm imm) s

/-- LDY zeroPage, 0xA4 (R152). -/
def execLdyZp (zp : Byte) (s : State) : Answer := runRead loadY (.zp zp) s

/-- LDY absolute, 0xAC (R152). -/
def execLdyAbs (addr : Word) (s : State) : Answer := runRead loadY (.abs addr) s

/-- LDY zeroPageX, 0xB4 (R152). -/
def execLdyZpX (zp : Byte) (s : State) : Answer := runRead loadY (.zpX zp) s

/-- LDY absoluteX, 0xBC (R152). -/
def execLdyAbsX (addr : Word) (s : State) : Answer := runRead loadY (.absX addr) s

/-- STA indirectX, 0x81 (R153). -/
def execStaIndX (zp : Byte) (s : State) : Answer := runStore 0x81 (.indX zp) s.a s

/-- STA zeroPage, 0x85 (R153). -/
def execStaZp (zp : Byte) (s : State) : Answer := runStore 0x85 (.zp zp) s.a s

/-- STA absolute, 0x8D (R153). -/
def execStaAbs (addr : Word) (s : State) : Answer := runStore 0x8D (.abs addr) s.a s

/-- STA indirectY, 0x91 (R153). -/
def execStaIndY (zp : Byte) (s : State) : Answer := runStore 0x91 (.indY zp) s.a s

/-- STA zeroPageX, 0x95 (R153). -/
def execStaZpX (zp : Byte) (s : State) : Answer := runStore 0x95 (.zpX zp) s.a s

/-- STA absoluteY, 0x99 (R153). -/
def execStaAbsY (addr : Word) (s : State) : Answer := runStore 0x99 (.absY addr) s.a s

/-- STA absoluteX, 0x9D (R153). -/
def execStaAbsX (addr : Word) (s : State) : Answer := runStore 0x9D (.absX addr) s.a s

/-- STX zeroPage, 0x86 (R154). -/
def execStxZp (zp : Byte) (s : State) : Answer := runStore 0x86 (.zp zp) s.x s

/-- STX absolute, 0x8E (R154). -/
def execStxAbs (addr : Word) (s : State) : Answer := runStore 0x8E (.abs addr) s.x s

/-- STX zeroPageY, 0x96 (R154). -/
def execStxZpY (zp : Byte) (s : State) : Answer := runStore 0x96 (.zpY zp) s.x s

/-- STY zeroPage, 0x84 (R155). -/
def execStyZp (zp : Byte) (s : State) : Answer := runStore 0x84 (.zp zp) s.y s

/-- STY absolute, 0x8C (R155). -/
def execStyAbs (addr : Word) (s : State) : Answer := runStore 0x8C (.abs addr) s.y s

/-- STY zeroPageX, 0x94 (R155). -/
def execStyZpX (zp : Byte) (s : State) : Answer := runStore 0x94 (.zpX zp) s.y s

/-- TAX implied, 0xAA (R156). -/
def execTax (s : State) : Answer := runImplied transferAX s

/-- TAY implied, 0xA8 (R157). -/
def execTay (s : State) : Answer := runImplied transferAY s

/-- TXA implied, 0x8A (R158). -/
def execTxa (s : State) : Answer := runImplied transferXA s

/-- TYA implied, 0x98 (R159). -/
def execTya (s : State) : Answer := runImplied transferYA s

/-- TSX implied, 0xBA (R160). -/
def execTsx (s : State) : Answer := runImplied transferSX s

/-- TXS implied, 0x9A (R161). -/
def execTxs (s : State) : Answer := runImplied transferXS s

end Sys2Proof.Machine
end

