-- ==== Sys2Proof/Machine/Shift.lean ====
section
/-! DEFINITION. Shifts and rotates (44_shift_rotate.md R210 to R214), each in the accumulator form and the memory forms. -/

namespace Sys2Proof.Machine

/-- The accumulator form of `ApplyTarget(f)` (R214). -/
def shiftA (f : Byte → Bool → Byte × Bool) (s : State) : State :=
  let r := f s.a (s.flag .c)
  (s.setA r.1).shiftFlags r.1 r.2

/-- The flags of the memory forms, after the write (R214). -/
def setShifted (r : Byte) (c : Bool) (s : State) : State := s.shiftFlags r c

/-- ASL zeroPage, 0x06 (R210). -/
def execAslZp (zp : Byte) (s : State) : Answer := runModify 0x06 aslStep setShifted (.zp zp) s

/-- ASL accumulator, 0x0A (R210). -/
def execAslAcc (s : State) : Answer := runImplied (shiftA aslStep) s

/-- ASL absolute, 0x0E (R210). -/
def execAslAbs (addr : Word) (s : State) : Answer := runModify 0x0E aslStep setShifted (.abs addr) s

/-- ASL zeroPageX, 0x16 (R210). -/
def execAslZpX (zp : Byte) (s : State) : Answer := runModify 0x16 aslStep setShifted (.zpX zp) s

/-- ASL absoluteX, 0x1E (R210). -/
def execAslAbsX (addr : Word) (s : State) : Answer := runModify 0x1E aslStep setShifted (.absX addr) s

/-- LSR zeroPage, 0x46 (R211). -/
def execLsrZp (zp : Byte) (s : State) : Answer := runModify 0x46 lsrStep setShifted (.zp zp) s

/-- LSR accumulator, 0x4A (R211). -/
def execLsrAcc (s : State) : Answer := runImplied (shiftA lsrStep) s

/-- LSR absolute, 0x4E (R211). -/
def execLsrAbs (addr : Word) (s : State) : Answer := runModify 0x4E lsrStep setShifted (.abs addr) s

/-- LSR zeroPageX, 0x56 (R211). -/
def execLsrZpX (zp : Byte) (s : State) : Answer := runModify 0x56 lsrStep setShifted (.zpX zp) s

/-- LSR absoluteX, 0x5E (R211). -/
def execLsrAbsX (addr : Word) (s : State) : Answer := runModify 0x5E lsrStep setShifted (.absX addr) s

/-- ROL zeroPage, 0x26 (R212). -/
def execRolZp (zp : Byte) (s : State) : Answer := runModify 0x26 rolStep setShifted (.zp zp) s

/-- ROL accumulator, 0x2A (R212). -/
def execRolAcc (s : State) : Answer := runImplied (shiftA rolStep) s

/-- ROL absolute, 0x2E (R212). -/
def execRolAbs (addr : Word) (s : State) : Answer := runModify 0x2E rolStep setShifted (.abs addr) s

/-- ROL zeroPageX, 0x36 (R212). -/
def execRolZpX (zp : Byte) (s : State) : Answer := runModify 0x36 rolStep setShifted (.zpX zp) s

/-- ROL absoluteX, 0x3E (R212). -/
def execRolAbsX (addr : Word) (s : State) : Answer := runModify 0x3E rolStep setShifted (.absX addr) s

/-- ROR zeroPage, 0x66 (R213). -/
def execRorZp (zp : Byte) (s : State) : Answer := runModify 0x66 rorStep setShifted (.zp zp) s

/-- ROR accumulator, 0x6A (R213). -/
def execRorAcc (s : State) : Answer := runImplied (shiftA rorStep) s

/-- ROR absolute, 0x6E (R213). -/
def execRorAbs (addr : Word) (s : State) : Answer := runModify 0x6E rorStep setShifted (.abs addr) s

/-- ROR zeroPageX, 0x76 (R213). -/
def execRorZpX (zp : Byte) (s : State) : Answer := runModify 0x76 rorStep setShifted (.zpX zp) s

/-- ROR absoluteX, 0x7E (R213). -/
def execRorAbsX (addr : Word) (s : State) : Answer := runModify 0x7E rorStep setShifted (.absX addr) s

end Sys2Proof.Machine
end

