-- ==== Sys2Proof/Machine/Stack.lean ====
section
/-! DEFINITION. The stack instructions (42_stack.md R170 to R173). -/

namespace Sys2Proof.Machine

/-- PHA's `Push(A)` (R170). -/
def pushA (s : State) : State := s.push s.a

/-- PHP's `Push(P | 0x30)`; P itself is unchanged (R171). -/
def pushP (s : State) : State := s.push s.pushedByBreak

/-- PLA's `A <- Pop(); SetZN(A)` (R172). -/
def pullA (s : State) : State := (s.pop.2.setA s.pop.1).setZN s.pop.1

/-- PLP's `P <- (Pop() & 0xEF) | 0x20` (R173). -/
def pullP (s : State) : State := s.pop.2.restoreP s.pop.1

/-- PHA implied, 0x48 (R170). -/
def execPha (s : State) : Answer := runImplied pushA s

/-- PHP implied, 0x08 (R171). -/
def execPhp (s : State) : Answer := runImplied pushP s

/-- PLA implied, 0x68 (R172). -/
def execPla (s : State) : Answer := runImplied pullA s

/-- PLP implied, 0x28 (R173). -/
def execPlp (s : State) : Answer := runImplied pullP s

end Sys2Proof.Machine
end

