-- ==== Sys2Proof/Machine/Undocumented.lean ====
section
/-! DEFINITION. The undocumented opcodes (47_undocumented.md R260 to R283). -/

namespace Sys2Proof.Machine

/-- SLO after its write: carry, then `A <- A | r` (R261). -/
def shiftThenOr (r : Byte) (c : Bool) (s : State) : State := orA r (s.putFlag .c c)

/-- RLA after its write: carry, then `A <- A & r` (R262). -/
def rotateThenAnd (r : Byte) (c : Bool) (s : State) : State := andA r (s.putFlag .c c)

/-- SRE after its write: carry, then `A <- A ^ r` (R263). -/
def shiftThenXor (r : Byte) (c : Bool) (s : State) : State := xorA r (s.putFlag .c c)

/-- RRA after its write: the rotated-out carry, then the addition that reads it (R264). -/
def rotateThenAdd (r : Byte) (c : Bool) (s : State) : State := addA r (s.putFlag .c c)

/-- DCP after its write: compare A with the decremented byte (R267). -/
def compareCounted (r : Byte) (_ : Bool) (s : State) : State := compareA r s

/-- ISB after its write: subtract the incremented byte (R268). -/
def subtractCounted (r : Byte) (_ : Bool) (s : State) : State := subtractA r s

/-- LAX (R266). -/
def loadAX (m : Byte) (s : State) : State := ((s.setA m).setX m).setZN m

/-- LAS (R274). -/
def loadAXS (m : Byte) (s : State) : State :=
  (((s.setA (m &&& s.sp)).setX (m &&& s.sp)).setSP (m &&& s.sp)).setZN (m &&& s.sp)

/-- ANC (R269). -/
def andCarry (m : Byte) (s : State) : State := (andA m s).putFlag .c ((s.a &&& m).getLsbD 7)

/-- ALR (R270). -/
def andShift (m : Byte) (s : State) : State :=
  ((s.putFlag .c ((s.a &&& m).getLsbD 0)).setA ((s.a &&& m) >>> 1)).setZN ((s.a &&& m) >>> 1)

/-- ARR's result, `(t >> 1) | (P.C << 7)` (R271): ROR's. -/
def andRotateResult (m : Byte) (s : State) : Byte := (rorStep (s.a &&& m) (s.flag .c)).1

/-- ARR: C is bit 6 of the result and V is bit 6 XOR bit 5 (R271). -/
def andRotate (m : Byte) (s : State) : State :=
  let r := andRotateResult m s
  (((s.setA r).setZN r).putFlag .c (r.getLsbD 6)).putFlag .v (r.getLsbD 6 ^^ r.getLsbD 5)

/-- SBX: carry as for a compare, `X <- (A & X) - M` (R272). -/
def subtractX (m : Byte) (s : State) : State :=
  ((s.putFlag .c (decide ((s.a &&& s.x).toNat ≥ m.toNat))).setX ((s.a &&& s.x) - m)).setZN ((s.a &&& s.x) - m)

/-- The undocumented NOP forms read their operand and discard it (R275). -/
def ignoreOperand (_ : Byte) (s : State) : State := s

/-- SLO indirectX, 0x03 (R261). -/
def execSloIndX (zp : Byte) (s : State) : Answer := runModify 0x03 aslStep shiftThenOr (.indX zp) s

/-- SLO zeroPage, 0x07 (R261). -/
def execSloZp (zp : Byte) (s : State) : Answer := runModify 0x07 aslStep shiftThenOr (.zp zp) s

/-- SLO absolute, 0x0F (R261). -/
def execSloAbs (addr : Word) (s : State) : Answer := runModify 0x0F aslStep shiftThenOr (.abs addr) s

/-- SLO indirectY, 0x13 (R261). -/
def execSloIndY (zp : Byte) (s : State) : Answer := runModify 0x13 aslStep shiftThenOr (.indY zp) s

/-- SLO zeroPageX, 0x17 (R261). -/
def execSloZpX (zp : Byte) (s : State) : Answer := runModify 0x17 aslStep shiftThenOr (.zpX zp) s

/-- SLO absoluteY, 0x1B (R261). -/
def execSloAbsY (addr : Word) (s : State) : Answer := runModify 0x1B aslStep shiftThenOr (.absY addr) s

/-- SLO absoluteX, 0x1F (R261). -/
def execSloAbsX (addr : Word) (s : State) : Answer := runModify 0x1F aslStep shiftThenOr (.absX addr) s

/-- RLA indirectX, 0x23 (R262). -/
def execRlaIndX (zp : Byte) (s : State) : Answer := runModify 0x23 rolStep rotateThenAnd (.indX zp) s

/-- RLA zeroPage, 0x27 (R262). -/
def execRlaZp (zp : Byte) (s : State) : Answer := runModify 0x27 rolStep rotateThenAnd (.zp zp) s

/-- RLA absolute, 0x2F (R262). -/
def execRlaAbs (addr : Word) (s : State) : Answer := runModify 0x2F rolStep rotateThenAnd (.abs addr) s

/-- RLA indirectY, 0x33 (R262). -/
def execRlaIndY (zp : Byte) (s : State) : Answer := runModify 0x33 rolStep rotateThenAnd (.indY zp) s

/-- RLA zeroPageX, 0x37 (R262). -/
def execRlaZpX (zp : Byte) (s : State) : Answer := runModify 0x37 rolStep rotateThenAnd (.zpX zp) s

/-- RLA absoluteY, 0x3B (R262). -/
def execRlaAbsY (addr : Word) (s : State) : Answer := runModify 0x3B rolStep rotateThenAnd (.absY addr) s

/-- RLA absoluteX, 0x3F (R262). -/
def execRlaAbsX (addr : Word) (s : State) : Answer := runModify 0x3F rolStep rotateThenAnd (.absX addr) s

/-- SRE indirectX, 0x43 (R263). -/
def execSreIndX (zp : Byte) (s : State) : Answer := runModify 0x43 lsrStep shiftThenXor (.indX zp) s

/-- SRE zeroPage, 0x47 (R263). -/
def execSreZp (zp : Byte) (s : State) : Answer := runModify 0x47 lsrStep shiftThenXor (.zp zp) s

/-- SRE absolute, 0x4F (R263). -/
def execSreAbs (addr : Word) (s : State) : Answer := runModify 0x4F lsrStep shiftThenXor (.abs addr) s

/-- SRE indirectY, 0x53 (R263). -/
def execSreIndY (zp : Byte) (s : State) : Answer := runModify 0x53 lsrStep shiftThenXor (.indY zp) s

/-- SRE zeroPageX, 0x57 (R263). -/
def execSreZpX (zp : Byte) (s : State) : Answer := runModify 0x57 lsrStep shiftThenXor (.zpX zp) s

/-- SRE absoluteY, 0x5B (R263). -/
def execSreAbsY (addr : Word) (s : State) : Answer := runModify 0x5B lsrStep shiftThenXor (.absY addr) s

/-- SRE absoluteX, 0x5F (R263). -/
def execSreAbsX (addr : Word) (s : State) : Answer := runModify 0x5F lsrStep shiftThenXor (.absX addr) s

/-- RRA indirectX, 0x63 (R264). -/
def execRraIndX (zp : Byte) (s : State) : Answer := runModify 0x63 rorStep rotateThenAdd (.indX zp) s

/-- RRA zeroPage, 0x67 (R264). -/
def execRraZp (zp : Byte) (s : State) : Answer := runModify 0x67 rorStep rotateThenAdd (.zp zp) s

/-- RRA absolute, 0x6F (R264). -/
def execRraAbs (addr : Word) (s : State) : Answer := runModify 0x6F rorStep rotateThenAdd (.abs addr) s

/-- RRA indirectY, 0x73 (R264). -/
def execRraIndY (zp : Byte) (s : State) : Answer := runModify 0x73 rorStep rotateThenAdd (.indY zp) s

/-- RRA zeroPageX, 0x77 (R264). -/
def execRraZpX (zp : Byte) (s : State) : Answer := runModify 0x77 rorStep rotateThenAdd (.zpX zp) s

/-- RRA absoluteY, 0x7B (R264). -/
def execRraAbsY (addr : Word) (s : State) : Answer := runModify 0x7B rorStep rotateThenAdd (.absY addr) s

/-- RRA absoluteX, 0x7F (R264). -/
def execRraAbsX (addr : Word) (s : State) : Answer := runModify 0x7F rorStep rotateThenAdd (.absX addr) s

/-- DCP indirectX, 0xC3 (R267). -/
def execDcpIndX (zp : Byte) (s : State) : Answer := runModify 0xC3 decrement compareCounted (.indX zp) s

/-- DCP zeroPage, 0xC7 (R267). -/
def execDcpZp (zp : Byte) (s : State) : Answer := runModify 0xC7 decrement compareCounted (.zp zp) s

/-- DCP absolute, 0xCF (R267). -/
def execDcpAbs (addr : Word) (s : State) : Answer := runModify 0xCF decrement compareCounted (.abs addr) s

/-- DCP indirectY, 0xD3 (R267). -/
def execDcpIndY (zp : Byte) (s : State) : Answer := runModify 0xD3 decrement compareCounted (.indY zp) s

/-- DCP zeroPageX, 0xD7 (R267). -/
def execDcpZpX (zp : Byte) (s : State) : Answer := runModify 0xD7 decrement compareCounted (.zpX zp) s

/-- DCP absoluteY, 0xDB (R267). -/
def execDcpAbsY (addr : Word) (s : State) : Answer := runModify 0xDB decrement compareCounted (.absY addr) s

/-- DCP absoluteX, 0xDF (R267). -/
def execDcpAbsX (addr : Word) (s : State) : Answer := runModify 0xDF decrement compareCounted (.absX addr) s

/-- ISB indirectX, 0xE3 (R268). -/
def execIsbIndX (zp : Byte) (s : State) : Answer := runModify 0xE3 increment subtractCounted (.indX zp) s

/-- ISB zeroPage, 0xE7 (R268). -/
def execIsbZp (zp : Byte) (s : State) : Answer := runModify 0xE7 increment subtractCounted (.zp zp) s

/-- ISB absolute, 0xEF (R268). -/
def execIsbAbs (addr : Word) (s : State) : Answer := runModify 0xEF increment subtractCounted (.abs addr) s

/-- ISB indirectY, 0xF3 (R268). -/
def execIsbIndY (zp : Byte) (s : State) : Answer := runModify 0xF3 increment subtractCounted (.indY zp) s

/-- ISB zeroPageX, 0xF7 (R268). -/
def execIsbZpX (zp : Byte) (s : State) : Answer := runModify 0xF7 increment subtractCounted (.zpX zp) s

/-- ISB absoluteY, 0xFB (R268). -/
def execIsbAbsY (addr : Word) (s : State) : Answer := runModify 0xFB increment subtractCounted (.absY addr) s

/-- ISB absoluteX, 0xFF (R268). -/
def execIsbAbsX (addr : Word) (s : State) : Answer := runModify 0xFF increment subtractCounted (.absX addr) s

/-- SAX indirectX, 0x83 (R265). -/
def execSaxIndX (zp : Byte) (s : State) : Answer := runStore 0x83 (.indX zp) (s.a &&& s.x) s

/-- SAX zeroPage, 0x87 (R265). -/
def execSaxZp (zp : Byte) (s : State) : Answer := runStore 0x87 (.zp zp) (s.a &&& s.x) s

/-- SAX absolute, 0x8F (R265). -/
def execSaxAbs (addr : Word) (s : State) : Answer := runStore 0x8F (.abs addr) (s.a &&& s.x) s

/-- SAX zeroPageY, 0x97 (R265). -/
def execSaxZpY (zp : Byte) (s : State) : Answer := runStore 0x97 (.zpY zp) (s.a &&& s.x) s

/-- LAX indirectX, 0xA3 (R266). -/
def execLaxIndX (zp : Byte) (s : State) : Answer := runRead loadAX (.indX zp) s

/-- LAX zeroPage, 0xA7 (R266). -/
def execLaxZp (zp : Byte) (s : State) : Answer := runRead loadAX (.zp zp) s

/-- LAX absolute, 0xAF (R266). -/
def execLaxAbs (addr : Word) (s : State) : Answer := runRead loadAX (.abs addr) s

/-- LAX indirectY, 0xB3 (R266). -/
def execLaxIndY (zp : Byte) (s : State) : Answer := runRead loadAX (.indY zp) s

/-- LAX zeroPageY, 0xB7 (R266). -/
def execLaxZpY (zp : Byte) (s : State) : Answer := runRead loadAX (.zpY zp) s

/-- LAX absoluteY, 0xBF (R266). -/
def execLaxAbsY (addr : Word) (s : State) : Answer := runRead loadAX (.absY addr) s

/-- LAS absoluteY, 0xBB (R274). -/
def execLasAbsY (addr : Word) (s : State) : Answer := runRead loadAXS (.absY addr) s

/-- ANC immediate, 0x0B 0x2B (R269). -/
def execAncImm (_op : Byte) (imm : Byte) (s : State) : Answer := runRead andCarry (.imm imm) s

/-- ALR immediate, 0x4B (R270). -/
def execAlrImm (imm : Byte) (s : State) : Answer := runRead andShift (.imm imm) s

/-- ARR immediate, 0x6B (R271). -/
def execArrImm (imm : Byte) (s : State) : Answer := runRead andRotate (.imm imm) s

/-- SBX immediate, 0xCB (R272). -/
def execSbxImm (imm : Byte) (s : State) : Answer := runRead subtractX (.imm imm) s

/-- USBC immediate, 0xEB (R273). -/
def execUsbcImm (imm : Byte) (s : State) : Answer := runRead subtractA (.imm imm) s

/-- NOP zeroPage, 0x04 0x44 0x64 (R275). -/
def execNopZp (_op : Byte) (zp : Byte) (s : State) : Answer := runRead ignoreOperand (.zp zp) s

/-- NOP absolute, 0x0C (R275). -/
def execNopAbs (addr : Word) (s : State) : Answer := runRead ignoreOperand (.abs addr) s

/-- NOP zeroPageX, 0x14 0x34 0x54 0x74 0xD4 0xF4 (R275). -/
def execNopZpX (_op : Byte) (zp : Byte) (s : State) : Answer := runRead ignoreOperand (.zpX zp) s

/-- NOP implied, 0x1A 0x3A 0x5A 0x7A 0xDA 0xFA (R275). -/
def execNopImplied (_op : Byte) (s : State) : Answer := runImplied id s

/-- NOP absoluteX, 0x1C 0x3C 0x5C 0x7C 0xDC 0xFC (R275). -/
def execNopAbsX (_op : Byte) (addr : Word) (s : State) : Answer := runRead ignoreOperand (.absX addr) s

/-- NOP immediate, 0x80 0x82 0x89 0xC2 0xE2 (R275). -/
def execNopImm (_op : Byte) (imm : Byte) (s : State) : Answer := runRead ignoreOperand (.imm imm) s

/-- JAM implied, 0x02 0x12 0x22 0x32 0x42 0x52 0x62 0x72 0x92 0xB2 0xD2 0xF2 (R276). -/
def execJam (op : Byte) (s : State) : Answer := .next (s.takeJam op)

/-- ANE immediate, 0x8B (R277). -/
def execAneImm (_imm : Byte) (s : State) : Answer := .next (s.takeFault .unmodelledOpcode 0x8B)

/-- LXA immediate, 0xAB (R278). -/
def execLxaImm (_imm : Byte) (s : State) : Answer := .next (s.takeFault .unmodelledOpcode 0xAB)

/-- SHA indirectY, 0x93 (R279). -/
def execShaIndY (_zp : Byte) (s : State) : Answer := .next (s.takeFault .unmodelledOpcode 0x93)

/-- SHA absoluteY, 0x9F (R279). -/
def execShaAbsY (_addr : Word) (s : State) : Answer := .next (s.takeFault .unmodelledOpcode 0x9F)

/-- SHY absoluteX, 0x9C (R280). -/
def execShyAbsX (_addr : Word) (s : State) : Answer := .next (s.takeFault .unmodelledOpcode 0x9C)

/-- SHX absoluteY, 0x9E (R281). -/
def execShxAbsY (_addr : Word) (s : State) : Answer := .next (s.takeFault .unmodelledOpcode 0x9E)

/-- TAS absoluteY, 0x9B (R282). -/
def execTasAbsY (_addr : Word) (s : State) : Answer := .next (s.takeFault .unmodelledOpcode 0x9B)

end Sys2Proof.Machine
end

