-- ==== Sys2Proof/Machine/Step.lean ====
section
/-! DEFINITION. One step of the core (40_core_and_addressing.md R120, R127), and the placing of an instruction where
the next step fetches it. -/

namespace Sys2Proof.Machine

/-- Fetch the bytes at PC, decode them and run the instruction (R120). -/
def fetchAndExec (s : State) : Host.Outcome State Fault Refusal :=
  match decode s.fetchBytes with
  | .ok (i, _) => exec i s
  | .error _ => .next s.decodeMiss

/-- `Step(ctrl)` (R120). `Halted`, `Fault F` and `Stuck` of R127 are next states with that run state (log 6). -/
def stepWith (ctrl : Byte) (s : State) : Host.Outcome State Fault Refusal :=
  match s.boundary with
  | .noStep why => .fault why
  | .halt => .next s.halt
  | .interrupt => .next s.enterRunning.interruptEntry
  | .fetch => fetchAndExec (s.readyToFetch ctrl)

/-- One step, with the host's controller byte a free draw (70_reset_and_hazards.md R361, log 5). -/
def step (s : State) : Host.Outcome State Fault Refusal := stepWith (Config.freeCtrl s.ctrlDraws) s

/-- Bytes placed on the bus from an address on (log 9). -/
def State.placeBytes (s : State) : Word → List Byte → State
  | _, [] => s
  | addr, b :: bs => State.placeBytes (s.placeByte addr b) (addr + 1) bs

/-- The state with the instruction of a table word stored at PC, where `step` fetches next (log 9). -/
def State.withFetchWord (s : State) (nbits w : Nat) : State := s.placeBytes s.pc (tableWordBytes nbits w)

end Sys2Proof.Machine
end

