-- ==== Sys2Proof/Machine/Table.lean ====
section
/-! DEFINITION. The descriptor table (30_encoding.md R95, R98): one row per opcode byte. Execution does not read it:
each meaning names its own operand form, and each control-flow meaning sets PC itself (40_core_and_addressing.md
R124, R125). The trace reads the mnemonic, mode and length; the cycle counts are informational (70_reset_and_hazards.md
R370) and nothing reads them. -/

namespace Sys2Proof

/-- The thirteen addressing modes (30_encoding.md R92). -/
inductive Mode where
  | implied
  | accumulator
  | immediate
  | zeroPage
  | zeroPageX
  | zeroPageY
  | absolute
  | absoluteX
  | absoluteY
  | indirect
  | indirectX
  | indirectY
  | relative
  deriving DecidableEq, Repr

/-- The length a mode fixes (R92, R104). -/
def Mode.length : Mode → Nat
  | .implied => 1
  | .accumulator => 1
  | .immediate => 2
  | .zeroPage => 2
  | .zeroPageX => 2
  | .zeroPageY => 2
  | .absolute => 3
  | .absoluteX => 3
  | .absoluteY => 3
  | .indirect => 3
  | .indirectX => 2
  | .indirectY => 2
  | .relative => 2

/-- What an opcode's handler does (R98): it has semantics, it jams, or it raises `UnmodelledOpcode`. -/
inductive OpcodeStatus where
  | executes
  | jams
  | faults
  deriving DecidableEq, Repr

/-- A descriptor (R95), without its opcode (its place in the table) and its handler (the arm of `exec`). -/
structure Descriptor where
  mnemonic : String
  mode : Mode
  length : Nat
  /-- Informational base cycle count; a JAM opcode has none (70_reset_and_hazards.md R370). -/
  cycles : Option Nat
  documented : Bool
  status : OpcodeStatus
  pcOwning : Bool
  deriving DecidableEq, Repr

/-- Descriptors 0x00 to 0x0F (R98). -/
def descriptorRow0 : List Descriptor :=
  [⟨"BRK", .implied, 1, some 7, true, .executes, true⟩,
   ⟨"ORA", .indirectX, 2, some 6, true, .executes, false⟩,
   ⟨"JAM", .implied, 1, none, false, .jams, true⟩,
   ⟨"SLO", .indirectX, 2, some 8, false, .executes, false⟩,
   ⟨"NOP", .zeroPage, 2, some 3, false, .executes, false⟩,
   ⟨"ORA", .zeroPage, 2, some 3, true, .executes, false⟩,
   ⟨"ASL", .zeroPage, 2, some 5, true, .executes, false⟩,
   ⟨"SLO", .zeroPage, 2, some 5, false, .executes, false⟩,
   ⟨"PHP", .implied, 1, some 3, true, .executes, false⟩,
   ⟨"ORA", .immediate, 2, some 2, true, .executes, false⟩,
   ⟨"ASL", .accumulator, 1, some 2, true, .executes, false⟩,
   ⟨"ANC", .immediate, 2, some 2, false, .executes, false⟩,
   ⟨"NOP", .absolute, 3, some 4, false, .executes, false⟩,
   ⟨"ORA", .absolute, 3, some 4, true, .executes, false⟩,
   ⟨"ASL", .absolute, 3, some 6, true, .executes, false⟩,
   ⟨"SLO", .absolute, 3, some 6, false, .executes, false⟩]

/-- Descriptors 0x10 to 0x1F (R98). -/
def descriptorRow1 : List Descriptor :=
  [⟨"BPL", .relative, 2, some 2, true, .executes, true⟩,
   ⟨"ORA", .indirectY, 2, some 5, true, .executes, false⟩,
   ⟨"JAM", .implied, 1, none, false, .jams, true⟩,
   ⟨"SLO", .indirectY, 2, some 8, false, .executes, false⟩,
   ⟨"NOP", .zeroPageX, 2, some 4, false, .executes, false⟩,
   ⟨"ORA", .zeroPageX, 2, some 4, true, .executes, false⟩,
   ⟨"ASL", .zeroPageX, 2, some 6, true, .executes, false⟩,
   ⟨"SLO", .zeroPageX, 2, some 6, false, .executes, false⟩,
   ⟨"CLC", .implied, 1, some 2, true, .executes, false⟩,
   ⟨"ORA", .absoluteY, 3, some 4, true, .executes, false⟩,
   ⟨"NOP", .implied, 1, some 2, false, .executes, false⟩,
   ⟨"SLO", .absoluteY, 3, some 7, false, .executes, false⟩,
   ⟨"NOP", .absoluteX, 3, some 4, false, .executes, false⟩,
   ⟨"ORA", .absoluteX, 3, some 4, true, .executes, false⟩,
   ⟨"ASL", .absoluteX, 3, some 7, true, .executes, false⟩,
   ⟨"SLO", .absoluteX, 3, some 7, false, .executes, false⟩]

/-- Descriptors 0x20 to 0x2F (R98). -/
def descriptorRow2 : List Descriptor :=
  [⟨"JSR", .absolute, 3, some 6, true, .executes, true⟩,
   ⟨"AND", .indirectX, 2, some 6, true, .executes, false⟩,
   ⟨"JAM", .implied, 1, none, false, .jams, true⟩,
   ⟨"RLA", .indirectX, 2, some 8, false, .executes, false⟩,
   ⟨"BIT", .zeroPage, 2, some 3, true, .executes, false⟩,
   ⟨"AND", .zeroPage, 2, some 3, true, .executes, false⟩,
   ⟨"ROL", .zeroPage, 2, some 5, true, .executes, false⟩,
   ⟨"RLA", .zeroPage, 2, some 5, false, .executes, false⟩,
   ⟨"PLP", .implied, 1, some 4, true, .executes, false⟩,
   ⟨"AND", .immediate, 2, some 2, true, .executes, false⟩,
   ⟨"ROL", .accumulator, 1, some 2, true, .executes, false⟩,
   ⟨"ANC", .immediate, 2, some 2, false, .executes, false⟩,
   ⟨"BIT", .absolute, 3, some 4, true, .executes, false⟩,
   ⟨"AND", .absolute, 3, some 4, true, .executes, false⟩,
   ⟨"ROL", .absolute, 3, some 6, true, .executes, false⟩,
   ⟨"RLA", .absolute, 3, some 6, false, .executes, false⟩]

/-- Descriptors 0x30 to 0x3F (R98). -/
def descriptorRow3 : List Descriptor :=
  [⟨"BMI", .relative, 2, some 2, true, .executes, true⟩,
   ⟨"AND", .indirectY, 2, some 5, true, .executes, false⟩,
   ⟨"JAM", .implied, 1, none, false, .jams, true⟩,
   ⟨"RLA", .indirectY, 2, some 8, false, .executes, false⟩,
   ⟨"NOP", .zeroPageX, 2, some 4, false, .executes, false⟩,
   ⟨"AND", .zeroPageX, 2, some 4, true, .executes, false⟩,
   ⟨"ROL", .zeroPageX, 2, some 6, true, .executes, false⟩,
   ⟨"RLA", .zeroPageX, 2, some 6, false, .executes, false⟩,
   ⟨"SEC", .implied, 1, some 2, true, .executes, false⟩,
   ⟨"AND", .absoluteY, 3, some 4, true, .executes, false⟩,
   ⟨"NOP", .implied, 1, some 2, false, .executes, false⟩,
   ⟨"RLA", .absoluteY, 3, some 7, false, .executes, false⟩,
   ⟨"NOP", .absoluteX, 3, some 4, false, .executes, false⟩,
   ⟨"AND", .absoluteX, 3, some 4, true, .executes, false⟩,
   ⟨"ROL", .absoluteX, 3, some 7, true, .executes, false⟩,
   ⟨"RLA", .absoluteX, 3, some 7, false, .executes, false⟩]

/-- Descriptors 0x40 to 0x4F (R98). -/
def descriptorRow4 : List Descriptor :=
  [⟨"RTI", .implied, 1, some 6, true, .executes, true⟩,
   ⟨"EOR", .indirectX, 2, some 6, true, .executes, false⟩,
   ⟨"JAM", .implied, 1, none, false, .jams, true⟩,
   ⟨"SRE", .indirectX, 2, some 8, false, .executes, false⟩,
   ⟨"NOP", .zeroPage, 2, some 3, false, .executes, false⟩,
   ⟨"EOR", .zeroPage, 2, some 3, true, .executes, false⟩,
   ⟨"LSR", .zeroPage, 2, some 5, true, .executes, false⟩,
   ⟨"SRE", .zeroPage, 2, some 5, false, .executes, false⟩,
   ⟨"PHA", .implied, 1, some 3, true, .executes, false⟩,
   ⟨"EOR", .immediate, 2, some 2, true, .executes, false⟩,
   ⟨"LSR", .accumulator, 1, some 2, true, .executes, false⟩,
   ⟨"ALR", .immediate, 2, some 2, false, .executes, false⟩,
   ⟨"JMP", .absolute, 3, some 3, true, .executes, true⟩,
   ⟨"EOR", .absolute, 3, some 4, true, .executes, false⟩,
   ⟨"LSR", .absolute, 3, some 6, true, .executes, false⟩,
   ⟨"SRE", .absolute, 3, some 6, false, .executes, false⟩]

/-- Descriptors 0x50 to 0x5F (R98). -/
def descriptorRow5 : List Descriptor :=
  [⟨"BVC", .relative, 2, some 2, true, .executes, true⟩,
   ⟨"EOR", .indirectY, 2, some 5, true, .executes, false⟩,
   ⟨"JAM", .implied, 1, none, false, .jams, true⟩,
   ⟨"SRE", .indirectY, 2, some 8, false, .executes, false⟩,
   ⟨"NOP", .zeroPageX, 2, some 4, false, .executes, false⟩,
   ⟨"EOR", .zeroPageX, 2, some 4, true, .executes, false⟩,
   ⟨"LSR", .zeroPageX, 2, some 6, true, .executes, false⟩,
   ⟨"SRE", .zeroPageX, 2, some 6, false, .executes, false⟩,
   ⟨"CLI", .implied, 1, some 2, true, .executes, false⟩,
   ⟨"EOR", .absoluteY, 3, some 4, true, .executes, false⟩,
   ⟨"NOP", .implied, 1, some 2, false, .executes, false⟩,
   ⟨"SRE", .absoluteY, 3, some 7, false, .executes, false⟩,
   ⟨"NOP", .absoluteX, 3, some 4, false, .executes, false⟩,
   ⟨"EOR", .absoluteX, 3, some 4, true, .executes, false⟩,
   ⟨"LSR", .absoluteX, 3, some 7, true, .executes, false⟩,
   ⟨"SRE", .absoluteX, 3, some 7, false, .executes, false⟩]

/-- Descriptors 0x60 to 0x6F (R98). -/
def descriptorRow6 : List Descriptor :=
  [⟨"RTS", .implied, 1, some 6, true, .executes, true⟩,
   ⟨"ADC", .indirectX, 2, some 6, true, .executes, false⟩,
   ⟨"JAM", .implied, 1, none, false, .jams, true⟩,
   ⟨"RRA", .indirectX, 2, some 8, false, .executes, false⟩,
   ⟨"NOP", .zeroPage, 2, some 3, false, .executes, false⟩,
   ⟨"ADC", .zeroPage, 2, some 3, true, .executes, false⟩,
   ⟨"ROR", .zeroPage, 2, some 5, true, .executes, false⟩,
   ⟨"RRA", .zeroPage, 2, some 5, false, .executes, false⟩,
   ⟨"PLA", .implied, 1, some 4, true, .executes, false⟩,
   ⟨"ADC", .immediate, 2, some 2, true, .executes, false⟩,
   ⟨"ROR", .accumulator, 1, some 2, true, .executes, false⟩,
   ⟨"ARR", .immediate, 2, some 2, false, .executes, false⟩,
   ⟨"JMP", .indirect, 3, some 5, true, .executes, true⟩,
   ⟨"ADC", .absolute, 3, some 4, true, .executes, false⟩,
   ⟨"ROR", .absolute, 3, some 6, true, .executes, false⟩,
   ⟨"RRA", .absolute, 3, some 6, false, .executes, false⟩]

/-- Descriptors 0x70 to 0x7F (R98). -/
def descriptorRow7 : List Descriptor :=
  [⟨"BVS", .relative, 2, some 2, true, .executes, true⟩,
   ⟨"ADC", .indirectY, 2, some 5, true, .executes, false⟩,
   ⟨"JAM", .implied, 1, none, false, .jams, true⟩,
   ⟨"RRA", .indirectY, 2, some 8, false, .executes, false⟩,
   ⟨"NOP", .zeroPageX, 2, some 4, false, .executes, false⟩,
   ⟨"ADC", .zeroPageX, 2, some 4, true, .executes, false⟩,
   ⟨"ROR", .zeroPageX, 2, some 6, true, .executes, false⟩,
   ⟨"RRA", .zeroPageX, 2, some 6, false, .executes, false⟩,
   ⟨"SEI", .implied, 1, some 2, true, .executes, false⟩,
   ⟨"ADC", .absoluteY, 3, some 4, true, .executes, false⟩,
   ⟨"NOP", .implied, 1, some 2, false, .executes, false⟩,
   ⟨"RRA", .absoluteY, 3, some 7, false, .executes, false⟩,
   ⟨"NOP", .absoluteX, 3, some 4, false, .executes, false⟩,
   ⟨"ADC", .absoluteX, 3, some 4, true, .executes, false⟩,
   ⟨"ROR", .absoluteX, 3, some 7, true, .executes, false⟩,
   ⟨"RRA", .absoluteX, 3, some 7, false, .executes, false⟩]

/-- Descriptors 0x80 to 0x8F (R98). -/
def descriptorRow8 : List Descriptor :=
  [⟨"NOP", .immediate, 2, some 2, false, .executes, false⟩,
   ⟨"STA", .indirectX, 2, some 6, true, .executes, false⟩,
   ⟨"NOP", .immediate, 2, some 2, false, .executes, false⟩,
   ⟨"SAX", .indirectX, 2, some 6, false, .executes, false⟩,
   ⟨"STY", .zeroPage, 2, some 3, true, .executes, false⟩,
   ⟨"STA", .zeroPage, 2, some 3, true, .executes, false⟩,
   ⟨"STX", .zeroPage, 2, some 3, true, .executes, false⟩,
   ⟨"SAX", .zeroPage, 2, some 3, false, .executes, false⟩,
   ⟨"DEY", .implied, 1, some 2, true, .executes, false⟩,
   ⟨"NOP", .immediate, 2, some 2, false, .executes, false⟩,
   ⟨"TXA", .implied, 1, some 2, true, .executes, false⟩,
   ⟨"ANE", .immediate, 2, some 2, false, .faults, false⟩,
   ⟨"STY", .absolute, 3, some 4, true, .executes, false⟩,
   ⟨"STA", .absolute, 3, some 4, true, .executes, false⟩,
   ⟨"STX", .absolute, 3, some 4, true, .executes, false⟩,
   ⟨"SAX", .absolute, 3, some 4, false, .executes, false⟩]

/-- Descriptors 0x90 to 0x9F (R98). -/
def descriptorRow9 : List Descriptor :=
  [⟨"BCC", .relative, 2, some 2, true, .executes, true⟩,
   ⟨"STA", .indirectY, 2, some 6, true, .executes, false⟩,
   ⟨"JAM", .implied, 1, none, false, .jams, true⟩,
   ⟨"SHA", .indirectY, 2, some 6, false, .faults, false⟩,
   ⟨"STY", .zeroPageX, 2, some 4, true, .executes, false⟩,
   ⟨"STA", .zeroPageX, 2, some 4, true, .executes, false⟩,
   ⟨"STX", .zeroPageY, 2, some 4, true, .executes, false⟩,
   ⟨"SAX", .zeroPageY, 2, some 4, false, .executes, false⟩,
   ⟨"TYA", .implied, 1, some 2, true, .executes, false⟩,
   ⟨"STA", .absoluteY, 3, some 5, true, .executes, false⟩,
   ⟨"TXS", .implied, 1, some 2, true, .executes, false⟩,
   ⟨"TAS", .absoluteY, 3, some 5, false, .faults, false⟩,
   ⟨"SHY", .absoluteX, 3, some 5, false, .faults, false⟩,
   ⟨"STA", .absoluteX, 3, some 5, true, .executes, false⟩,
   ⟨"SHX", .absoluteY, 3, some 5, false, .faults, false⟩,
   ⟨"SHA", .absoluteY, 3, some 5, false, .faults, false⟩]

/-- Descriptors 0xA0 to 0xAF (R98). -/
def descriptorRowA : List Descriptor :=
  [⟨"LDY", .immediate, 2, some 2, true, .executes, false⟩,
   ⟨"LDA", .indirectX, 2, some 6, true, .executes, false⟩,
   ⟨"LDX", .immediate, 2, some 2, true, .executes, false⟩,
   ⟨"LAX", .indirectX, 2, some 6, false, .executes, false⟩,
   ⟨"LDY", .zeroPage, 2, some 3, true, .executes, false⟩,
   ⟨"LDA", .zeroPage, 2, some 3, true, .executes, false⟩,
   ⟨"LDX", .zeroPage, 2, some 3, true, .executes, false⟩,
   ⟨"LAX", .zeroPage, 2, some 3, false, .executes, false⟩,
   ⟨"TAY", .implied, 1, some 2, true, .executes, false⟩,
   ⟨"LDA", .immediate, 2, some 2, true, .executes, false⟩,
   ⟨"TAX", .implied, 1, some 2, true, .executes, false⟩,
   ⟨"LXA", .immediate, 2, some 2, false, .faults, false⟩,
   ⟨"LDY", .absolute, 3, some 4, true, .executes, false⟩,
   ⟨"LDA", .absolute, 3, some 4, true, .executes, false⟩,
   ⟨"LDX", .absolute, 3, some 4, true, .executes, false⟩,
   ⟨"LAX", .absolute, 3, some 4, false, .executes, false⟩]

/-- Descriptors 0xB0 to 0xBF (R98). -/
def descriptorRowB : List Descriptor :=
  [⟨"BCS", .relative, 2, some 2, true, .executes, true⟩,
   ⟨"LDA", .indirectY, 2, some 5, true, .executes, false⟩,
   ⟨"JAM", .implied, 1, none, false, .jams, true⟩,
   ⟨"LAX", .indirectY, 2, some 5, false, .executes, false⟩,
   ⟨"LDY", .zeroPageX, 2, some 4, true, .executes, false⟩,
   ⟨"LDA", .zeroPageX, 2, some 4, true, .executes, false⟩,
   ⟨"LDX", .zeroPageY, 2, some 4, true, .executes, false⟩,
   ⟨"LAX", .zeroPageY, 2, some 4, false, .executes, false⟩,
   ⟨"CLV", .implied, 1, some 2, true, .executes, false⟩,
   ⟨"LDA", .absoluteY, 3, some 4, true, .executes, false⟩,
   ⟨"TSX", .implied, 1, some 2, true, .executes, false⟩,
   ⟨"LAS", .absoluteY, 3, some 4, false, .executes, false⟩,
   ⟨"LDY", .absoluteX, 3, some 4, true, .executes, false⟩,
   ⟨"LDA", .absoluteX, 3, some 4, true, .executes, false⟩,
   ⟨"LDX", .absoluteY, 3, some 4, true, .executes, false⟩,
   ⟨"LAX", .absoluteY, 3, some 4, false, .executes, false⟩]

/-- Descriptors 0xC0 to 0xCF (R98). -/
def descriptorRowC : List Descriptor :=
  [⟨"CPY", .immediate, 2, some 2, true, .executes, false⟩,
   ⟨"CMP", .indirectX, 2, some 6, true, .executes, false⟩,
   ⟨"NOP", .immediate, 2, some 2, false, .executes, false⟩,
   ⟨"DCP", .indirectX, 2, some 8, false, .executes, false⟩,
   ⟨"CPY", .zeroPage, 2, some 3, true, .executes, false⟩,
   ⟨"CMP", .zeroPage, 2, some 3, true, .executes, false⟩,
   ⟨"DEC", .zeroPage, 2, some 5, true, .executes, false⟩,
   ⟨"DCP", .zeroPage, 2, some 5, false, .executes, false⟩,
   ⟨"INY", .implied, 1, some 2, true, .executes, false⟩,
   ⟨"CMP", .immediate, 2, some 2, true, .executes, false⟩,
   ⟨"DEX", .implied, 1, some 2, true, .executes, false⟩,
   ⟨"SBX", .immediate, 2, some 2, false, .executes, false⟩,
   ⟨"CPY", .absolute, 3, some 4, true, .executes, false⟩,
   ⟨"CMP", .absolute, 3, some 4, true, .executes, false⟩,
   ⟨"DEC", .absolute, 3, some 6, true, .executes, false⟩,
   ⟨"DCP", .absolute, 3, some 6, false, .executes, false⟩]

/-- Descriptors 0xD0 to 0xDF (R98). -/
def descriptorRowD : List Descriptor :=
  [⟨"BNE", .relative, 2, some 2, true, .executes, true⟩,
   ⟨"CMP", .indirectY, 2, some 5, true, .executes, false⟩,
   ⟨"JAM", .implied, 1, none, false, .jams, true⟩,
   ⟨"DCP", .indirectY, 2, some 8, false, .executes, false⟩,
   ⟨"NOP", .zeroPageX, 2, some 4, false, .executes, false⟩,
   ⟨"CMP", .zeroPageX, 2, some 4, true, .executes, false⟩,
   ⟨"DEC", .zeroPageX, 2, some 6, true, .executes, false⟩,
   ⟨"DCP", .zeroPageX, 2, some 6, false, .executes, false⟩,
   ⟨"CLD", .implied, 1, some 2, true, .executes, false⟩,
   ⟨"CMP", .absoluteY, 3, some 4, true, .executes, false⟩,
   ⟨"NOP", .implied, 1, some 2, false, .executes, false⟩,
   ⟨"DCP", .absoluteY, 3, some 7, false, .executes, false⟩,
   ⟨"NOP", .absoluteX, 3, some 4, false, .executes, false⟩,
   ⟨"CMP", .absoluteX, 3, some 4, true, .executes, false⟩,
   ⟨"DEC", .absoluteX, 3, some 7, true, .executes, false⟩,
   ⟨"DCP", .absoluteX, 3, some 7, false, .executes, false⟩]

/-- Descriptors 0xE0 to 0xEF (R98). -/
def descriptorRowE : List Descriptor :=
  [⟨"CPX", .immediate, 2, some 2, true, .executes, false⟩,
   ⟨"SBC", .indirectX, 2, some 6, true, .executes, false⟩,
   ⟨"NOP", .immediate, 2, some 2, false, .executes, false⟩,
   ⟨"ISB", .indirectX, 2, some 8, false, .executes, false⟩,
   ⟨"CPX", .zeroPage, 2, some 3, true, .executes, false⟩,
   ⟨"SBC", .zeroPage, 2, some 3, true, .executes, false⟩,
   ⟨"INC", .zeroPage, 2, some 5, true, .executes, false⟩,
   ⟨"ISB", .zeroPage, 2, some 5, false, .executes, false⟩,
   ⟨"INX", .implied, 1, some 2, true, .executes, false⟩,
   ⟨"SBC", .immediate, 2, some 2, true, .executes, false⟩,
   ⟨"NOP", .implied, 1, some 2, true, .executes, false⟩,
   ⟨"USBC", .immediate, 2, some 2, false, .executes, false⟩,
   ⟨"CPX", .absolute, 3, some 4, true, .executes, false⟩,
   ⟨"SBC", .absolute, 3, some 4, true, .executes, false⟩,
   ⟨"INC", .absolute, 3, some 6, true, .executes, false⟩,
   ⟨"ISB", .absolute, 3, some 6, false, .executes, false⟩]

/-- Descriptors 0xF0 to 0xFF (R98). -/
def descriptorRowF : List Descriptor :=
  [⟨"BEQ", .relative, 2, some 2, true, .executes, true⟩,
   ⟨"SBC", .indirectY, 2, some 5, true, .executes, false⟩,
   ⟨"JAM", .implied, 1, none, false, .jams, true⟩,
   ⟨"ISB", .indirectY, 2, some 8, false, .executes, false⟩,
   ⟨"NOP", .zeroPageX, 2, some 4, false, .executes, false⟩,
   ⟨"SBC", .zeroPageX, 2, some 4, true, .executes, false⟩,
   ⟨"INC", .zeroPageX, 2, some 6, true, .executes, false⟩,
   ⟨"ISB", .zeroPageX, 2, some 6, false, .executes, false⟩,
   ⟨"SED", .implied, 1, some 2, true, .executes, false⟩,
   ⟨"SBC", .absoluteY, 3, some 4, true, .executes, false⟩,
   ⟨"NOP", .implied, 1, some 2, false, .executes, false⟩,
   ⟨"ISB", .absoluteY, 3, some 7, false, .executes, false⟩,
   ⟨"NOP", .absoluteX, 3, some 4, false, .executes, false⟩,
   ⟨"SBC", .absoluteX, 3, some 4, true, .executes, false⟩,
   ⟨"INC", .absoluteX, 3, some 7, true, .executes, false⟩,
   ⟨"ISB", .absoluteX, 3, some 7, false, .executes, false⟩]

/-- The descriptor table, one row per high nibble (R98). -/
def descriptorTable : List (List Descriptor) :=
  [descriptorRow0, descriptorRow1, descriptorRow2, descriptorRow3, descriptorRow4, descriptorRow5, descriptorRow6,
   descriptorRow7, descriptorRow8, descriptorRow9, descriptorRowA, descriptorRowB, descriptorRowC, descriptorRowD,
   descriptorRowE, descriptorRowF]

/-- `Table[op]` (40_core_and_addressing.md R120, R125). -/
def descriptor (op : Byte) : Option Descriptor :=
  descriptorTable[op.toNat / 16]?.bind (fun row => row[op.toNat % 16]?)

end Sys2Proof
end

