-- ==== Sys2Proof/Machine/Trace.lean ====
section
/-! DEFINITION. The trace snapshot (60_exceptions.md R330, R331). It is a function of the state before execution and
changes nothing. Its text is informative (30_encoding.md R112): the mnemonic and the operand text of the mode, without
the column layout, which the spec does not give (log 10). -/

namespace Sys2Proof.Machine

/-- `TraceEntry` (R330): values before execution. -/
structure TraceEntry where
  pc : Word
  bytes : List Byte
  text : String
  a : Byte
  x : Byte
  y : Byte
  p : Byte
  sp : Byte
  deriving DecidableEq, Repr

/-- One upper-case hexadecimal digit. -/
def hexDigit (n : BitVec 4) : String :=
  ["0", "1", "2", "3", "4", "5", "6", "7", "8", "9", "A", "B", "C", "D", "E", "F"].getD n.toNat ""

/-- Two digits. -/
def hexByte (b : Byte) : String := hexDigit (b.extractLsb' 4 4) ++ hexDigit (b.extractLsb' 0 4)

/-- Four digits. -/
def hexWord (w : Word) : String := hexByte (hi8 w) ++ hexByte (lo8 w)

/-- " = vv", the byte at an address before execution (30_encoding.md R112). -/
def State.shown (s : State) (addr : Word) : String := " = " ++ hexByte (s.read addr)

/-- The operand text of a mode, from the two bytes after the opcode (30_encoding.md R112). `jump` says that the
instruction is JMP or JSR, which show only the target. -/
def State.operandText (s : State) (mode : Mode) (jump : Bool) (b1 b2 : Byte) : String :=
  let w := wordOf b2 b1
  match mode with
  | .implied => ""
  | .accumulator => "A"
  | .immediate => "#$" ++ hexByte b1
  | .zeroPage => "$" ++ hexByte b1 ++ s.shown (Operand.ea s (.zp b1))
  | .zeroPageX => "$" ++ hexByte b1 ++ ",X @ " ++ hexByte (b1 + s.x) ++ s.shown (Operand.ea s (.zpX b1))
  | .zeroPageY => "$" ++ hexByte b1 ++ ",Y @ " ++ hexByte (b1 + s.y) ++ s.shown (Operand.ea s (.zpY b1))
  | .absolute => "$" ++ hexWord w ++ (if jump then "" else s.shown (Operand.ea s (.abs w)))
  | .absoluteX => "$" ++ hexWord w ++ ",X @ " ++ hexWord (Operand.ea s (.absX w)) ++ s.shown (Operand.ea s (.absX w))
  | .absoluteY => "$" ++ hexWord w ++ ",Y @ " ++ hexWord (Operand.ea s (.absY w)) ++ s.shown (Operand.ea s (.absY w))
  | .indirect => "($" ++ hexWord w ++ ") = " ++ hexWord (s.jmpIndirectTarget w)
  | .indirectX => "($" ++ hexByte b1 ++ ",X) @ " ++ hexByte (b1 + s.x) ++ " = " ++ hexWord (Operand.ea s (.indX b1)) ++
      s.shown (Operand.ea s (.indX b1))
  | .indirectY => "($" ++ hexByte b1 ++ "),Y = " ++ hexWord (s.read16ZP b1) ++ " @ " ++
      hexWord (Operand.ea s (.indY b1)) ++ s.shown (Operand.ea s (.indY b1))
  | .relative => "$" ++ hexWord (s.branchTarget b1)

/-- The mnemonic as the conformance log spells it: `*` before an undocumented one, and USBC as SBC
(30_encoding.md R111). -/
def traceName (d : Descriptor) : String :=
  (if d.documented then "" else "*") ++ (if d.mnemonic == "USBC" then "SBC" else d.mnemonic)

/-- Mnemonic and operand text of the instruction at PC. -/
def State.disassembly (s : State) (d : Descriptor) : String :=
  let operand := s.operandText d.mode (d.mnemonic == "JMP" || d.mnemonic == "JSR") (s.read (s.pc + 1)) (s.read (s.pc + 2))
  if operand == "" then traceName d else traceName d ++ " " ++ operand

/-- The snapshot of the instruction at PC (R330). The table has every opcode, so the `none` case is unreachable. -/
def State.traceEntry (s : State) : Option TraceEntry :=
  match descriptor (s.read s.pc) with
  | none => none
  | some d =>
    some { pc := s.pc, bytes := s.fetchBytes.take d.length, text := s.disassembly d,
           a := s.a, x := s.x, y := s.y, p := s.getP, sp := s.sp }

/-- What a step emits (R331): a snapshot when `TRACE = on` and the step fetches, taken after the host's write. -/
def State.emittedTrace (s : State) (ctrl : Byte) : Option TraceEntry :=
  match s.boundary with
  | .fetch => if s.cfg.trace then (s.readyToFetch ctrl).traceEntry else none
  | .noStep _ => none
  | .halt => none
  | .interrupt => none

end Sys2Proof.Machine
end

