-- ==== Sys2Proof/Machine/Loader.lean ====
section
/-! DEFINITION. The cartridge image loader (20_memory.md R70 to R79 and R84). -/

namespace Sys2Proof

/-- The loader's errors (R84). None is a CPU fault: each prevents construction. -/
inductive LoadError where
  | invalidImage
  | unsupportedFormat
  | unsupportedConfiguration
  deriving DecidableEq, Repr

/-- A byte of the image (0x00 past its end; the loader reads none there). -/
def imageByte (image : List Byte) (i : Nat) : Byte := image.getD i 0

/-- The header's length (R70). -/
def headerLength : Nat := 16

/-- Bytes 0 to 3, `4E 45 53 1A` (R71). -/
def imageMagic : List Byte := [0x4E, 0x45, 0x53, 0x1A]

/-- `prgLen = header[4] * 16384` (R72). -/
def imagePrgLength (image : List Byte) : Nat := (imageByte image 4).toNat * 16384

/-- `chrLen = header[5] * 8192` (R72). -/
def imageChrLength (image : List Byte) : Nat := (imageByte image 5).toNat * 8192

/-- `header[7][3:2]`, the format version (R73). -/
def imageVersion (image : List Byte) : BitVec 2 := (imageByte image 7).extractLsb' 2 2

/-- The trainer's length: 512 when byte 6 bit 2 is set (R76, R77). -/
def imageTrainerLength (image : List Byte) : Nat := if (imageByte image 6).getLsbD 2 then 512 else 0

/-- `mapper = header[7][7:4] * 16 + header[6][7:4]` (R75). -/
def imageMapper (image : List Byte) : Byte :=
  (imageByte image 7).extractLsb' 4 4 ++ (imageByte image 6).extractLsb' 4 4

/-- Four-screen if byte 6 bit 3 is set, else vertical for bit 0 = 1 and horizontal for 0 (R74). -/
def imageMirroring (image : List Byte) : Mirroring :=
  if (imageByte image 6).getLsbD 3 then .fourScreen
  else if (imageByte image 6).getLsbD 0 then .vertical else .horizontal

/-- The PRG slice (R77). -/
def imagePrg (image : List Byte) : List Byte :=
  (image.drop (headerLength + imageTrainerLength image)).take (imagePrgLength image)

/-- The CHR slice (R77). -/
def imageChr (image : List Byte) : List Byte :=
  (image.drop (headerLength + imageTrainerLength image + imagePrgLength image)).take (imageChrLength image)

/-- The PRG lengths the model admits (R78). -/
def admittedPrgSize (length : Nat) : Option PrgSize :=
  if length = 16384 then some .kib16 else if length = 32768 then some .kib32 else none

/-- The cartridge record of an image (10_state.md R43, R44), for an admitted PRG length. -/
def imageCartridge (image : List Byte) (size : PrgSize) : Cartridge :=
  { prgSize := size, prg := Memory.ofBytesAt 0 (imagePrg image), chrLen := imageChrLength image,
    chr := Memory.ofBytesAt 0 (imageChr image), mirroring := imageMirroring image,
    persistentRam := (imageByte image 6).getLsbD 1, mapper := imageMapper image }

/-- The loader, its checks in the order of R84: header length, magic, version, body length, admission. -/
def loadImage (image : List Byte) : Except LoadError Cartridge :=
  if image.length < headerLength then .error .invalidImage
  else if image.take 4 ≠ imageMagic then .error .invalidImage
  else if imageVersion image ≠ 0 then .error .unsupportedFormat
  else if image.length < headerLength + imageTrainerLength image + imagePrgLength image + imageChrLength image then
    .error .invalidImage
  else if imageMapper image ≠ 0 then .error .unsupportedConfiguration
  else
    match admittedPrgSize (imagePrgLength image) with
    | none => .error .unsupportedConfiguration
    | some size => .ok (imageCartridge image size)

end Sys2Proof
end

