-- ==== Sys2Proof/Machine/HostOps.lean ====
section
/-! DEFINITION. The host's operations between steps (70_reset_and_hazards.md R340, R341, R353, R360;
60_exceptions.md R315). Step(ctrl) itself is in Step.lean. -/

namespace Sys2Proof.Machine

/-- `Reset()` (R340), from any run state. RAM and the configuration are kept; so is the draw counter (log 5). -/
def State.applyReset (s : State) : State :=
  { s with
    a := 0x00, x := 0x00, y := 0x00, sp := 0xFD, p := 0x24, pc := s.cfg.resetPc,
    run := .idle, stopReq := false, fault := none, irq := false, nmiPending := false }

/-- `RequestStop()` (R353). -/
def State.requestStop (s : State) : State := s.setStopReq true

/-- `SetIRQ(level)` (60_exceptions.md R315): only with `INT_LINES = host_driven`; otherwise the line stays as it is
(log 8). -/
def State.setIrqLevel (s : State) (level : Bool) : State :=
  match s.cfg.intLines with
  | .tiedInactive => s
  | .hostDriven => s.setIrq level

/-- `AssertNMI()` (R315): sets the latch, only with `INT_LINES = host_driven` (log 8). -/
def State.assertNmi (s : State) : State :=
  match s.cfg.intLines with
  | .tiedInactive => s
  | .hostDriven => s.setNmiPending true

/-- `Snapshot()`: a copy of the state (10_state.md R45). -/
def State.snapshot (s : State) : State := s

/-- The state before the reset of a construction: RAM is `RAM_INIT`, the configuration is the loaded one. -/
def State.poweredOn (ramInit : Memory) (cfg : Config) : State :=
  { State.reset with ram := ramInit.normal 0x8000, cfg := cfg }

/-- `Construct(image)` (R341), with `RAM_INIT` and the other parameters of 00_scope.md R8. A loader error gives no
core. -/
def construct (image : List Byte) (ramInit : Memory) (entryPc : Option Word) (hostCtrl : HostCtrl)
    (intLines : IntLines) (trace : Bool) : Except LoadError State :=
  match loadImage image with
  | .error e => .error e
  | .ok cart =>
    .ok (State.poweredOn ramInit
      { cart := cart, entryPc := entryPc, hostCtrl := hostCtrl, intLines := intLines, trace := trace }).applyReset

/-- The host operations that change a core between steps (R360). -/
inductive HostOp where
  | reset
  | requestStop
  | setIrq (level : Bool)
  | assertNmi
  deriving DecidableEq, Repr

/-- The state after a host operation. -/
def State.afterHost (s : State) : HostOp → State
  | .reset => s.applyReset
  | .requestStop => s.requestStop
  | .setIrq level => s.setIrqLevel level
  | .assertNmi => s.assertNmi

end Sys2Proof.Machine
end

