-- ==== Sys2Proof/WellFormed.lean ====
section
/-! DEFINITION. Well-formedness. Of an instruction: its operand fields have the encoding's own width (30_encoding.md
R91, R93), so the one thing to check is the opcode byte of a constructor that stands for several rows of the table.
Of a configuration: the cartridge is one the model admits (20_memory.md R78), with its bytes in canonical form. -/

namespace Sys2Proof

/-- The JAM opcodes (30_encoding.md R101). -/
def jamOpcodes : List Byte := [0x02, 0x12, 0x22, 0x32, 0x42, 0x52, 0x62, 0x72, 0x92, 0xB2, 0xD2, 0xF2]

/-- The ANC opcodes (47_undocumented.md R269). -/
def ancOpcodes : List Byte := [0x0B, 0x2B]

/-- The undocumented NOP opcodes by mode (R275); the absolute form has one. -/
def nopImpliedOpcodes : List Byte := [0x1A, 0x3A, 0x5A, 0x7A, 0xDA, 0xFA]
def nopImmOpcodes : List Byte := [0x80, 0x82, 0x89, 0xC2, 0xE2]
def nopZpOpcodes : List Byte := [0x04, 0x44, 0x64]
def nopZpXOpcodes : List Byte := [0x14, 0x34, 0x54, 0x74, 0xD4, 0xF4]
def nopAbsXOpcodes : List Byte := [0x1C, 0x3C, 0x5C, 0x7C, 0xDC, 0xFC]

/-- The opcode field of an instruction names one of its rows; every other instruction is well-formed. -/
def Instr.wellFormed : Instr → Bool
  | .jam op => decide (op ∈ jamOpcodes)
  | .nopZp op _ => decide (op ∈ nopZpOpcodes)
  | .ancImm op _ => decide (op ∈ ancOpcodes)
  | .nopZpX op _ => decide (op ∈ nopZpXOpcodes)
  | .nopImplied op => decide (op ∈ nopImpliedOpcodes)
  | .nopAbsX op _ => decide (op ∈ nopAbsXOpcodes)
  | .nopImm op _ => decide (op ∈ nopImmOpcodes)
  | .brk => true
  | .oraIndX _ => true
  | .sloIndX _ => true
  | .oraZp _ => true
  | .aslZp _ => true
  | .sloZp _ => true
  | .php => true
  | .oraImm _ => true
  | .aslAcc => true
  | .nopAbs _ => true
  | .oraAbs _ => true
  | .aslAbs _ => true
  | .sloAbs _ => true
  | .bpl _ => true
  | .oraIndY _ => true
  | .sloIndY _ => true
  | .oraZpX _ => true
  | .aslZpX _ => true
  | .sloZpX _ => true
  | .clc => true
  | .oraAbsY _ => true
  | .sloAbsY _ => true
  | .oraAbsX _ => true
  | .aslAbsX _ => true
  | .sloAbsX _ => true
  | .jsrAbs _ => true
  | .andIndX _ => true
  | .rlaIndX _ => true
  | .bitZp _ => true
  | .andZp _ => true
  | .rolZp _ => true
  | .rlaZp _ => true
  | .plp => true
  | .andImm _ => true
  | .rolAcc => true
  | .bitAbs _ => true
  | .andAbs _ => true
  | .rolAbs _ => true
  | .rlaAbs _ => true
  | .bmi _ => true
  | .andIndY _ => true
  | .rlaIndY _ => true
  | .andZpX _ => true
  | .rolZpX _ => true
  | .rlaZpX _ => true
  | .sec => true
  | .andAbsY _ => true
  | .rlaAbsY _ => true
  | .andAbsX _ => true
  | .rolAbsX _ => true
  | .rlaAbsX _ => true
  | .rti => true
  | .eorIndX _ => true
  | .sreIndX _ => true
  | .eorZp _ => true
  | .lsrZp _ => true
  | .sreZp _ => true
  | .pha => true
  | .eorImm _ => true
  | .lsrAcc => true
  | .alrImm _ => true
  | .jmpAbs _ => true
  | .eorAbs _ => true
  | .lsrAbs _ => true
  | .sreAbs _ => true
  | .bvc _ => true
  | .eorIndY _ => true
  | .sreIndY _ => true
  | .eorZpX _ => true
  | .lsrZpX _ => true
  | .sreZpX _ => true
  | .cli => true
  | .eorAbsY _ => true
  | .sreAbsY _ => true
  | .eorAbsX _ => true
  | .lsrAbsX _ => true
  | .sreAbsX _ => true
  | .rts => true
  | .adcIndX _ => true
  | .rraIndX _ => true
  | .adcZp _ => true
  | .rorZp _ => true
  | .rraZp _ => true
  | .pla => true
  | .adcImm _ => true
  | .rorAcc => true
  | .arrImm _ => true
  | .jmpInd _ => true
  | .adcAbs _ => true
  | .rorAbs _ => true
  | .rraAbs _ => true
  | .bvs _ => true
  | .adcIndY _ => true
  | .rraIndY _ => true
  | .adcZpX _ => true
  | .rorZpX _ => true
  | .rraZpX _ => true
  | .sei => true
  | .adcAbsY _ => true
  | .rraAbsY _ => true
  | .adcAbsX _ => true
  | .rorAbsX _ => true
  | .rraAbsX _ => true
  | .staIndX _ => true
  | .saxIndX _ => true
  | .styZp _ => true
  | .staZp _ => true
  | .stxZp _ => true
  | .saxZp _ => true
  | .dey => true
  | .txa => true
  | .aneImm _ => true
  | .styAbs _ => true
  | .staAbs _ => true
  | .stxAbs _ => true
  | .saxAbs _ => true
  | .bcc _ => true
  | .staIndY _ => true
  | .shaIndY _ => true
  | .styZpX _ => true
  | .staZpX _ => true
  | .stxZpY _ => true
  | .saxZpY _ => true
  | .tya => true
  | .staAbsY _ => true
  | .txs => true
  | .tasAbsY _ => true
  | .shyAbsX _ => true
  | .staAbsX _ => true
  | .shxAbsY _ => true
  | .shaAbsY _ => true
  | .ldyImm _ => true
  | .ldaIndX _ => true
  | .ldxImm _ => true
  | .laxIndX _ => true
  | .ldyZp _ => true
  | .ldaZp _ => true
  | .ldxZp _ => true
  | .laxZp _ => true
  | .tay => true
  | .ldaImm _ => true
  | .tax => true
  | .lxaImm _ => true
  | .ldyAbs _ => true
  | .ldaAbs _ => true
  | .ldxAbs _ => true
  | .laxAbs _ => true
  | .bcs _ => true
  | .ldaIndY _ => true
  | .laxIndY _ => true
  | .ldyZpX _ => true
  | .ldaZpX _ => true
  | .ldxZpY _ => true
  | .laxZpY _ => true
  | .clv => true
  | .ldaAbsY _ => true
  | .tsx => true
  | .lasAbsY _ => true
  | .ldyAbsX _ => true
  | .ldaAbsX _ => true
  | .ldxAbsY _ => true
  | .laxAbsY _ => true
  | .cpyImm _ => true
  | .cmpIndX _ => true
  | .dcpIndX _ => true
  | .cpyZp _ => true
  | .cmpZp _ => true
  | .decZp _ => true
  | .dcpZp _ => true
  | .iny => true
  | .cmpImm _ => true
  | .dex => true
  | .sbxImm _ => true
  | .cpyAbs _ => true
  | .cmpAbs _ => true
  | .decAbs _ => true
  | .dcpAbs _ => true
  | .bne _ => true
  | .cmpIndY _ => true
  | .dcpIndY _ => true
  | .cmpZpX _ => true
  | .decZpX _ => true
  | .dcpZpX _ => true
  | .cld => true
  | .cmpAbsY _ => true
  | .dcpAbsY _ => true
  | .cmpAbsX _ => true
  | .decAbsX _ => true
  | .dcpAbsX _ => true
  | .cpxImm _ => true
  | .sbcIndX _ => true
  | .isbIndX _ => true
  | .cpxZp _ => true
  | .sbcZp _ => true
  | .incZp _ => true
  | .isbZp _ => true
  | .inx => true
  | .sbcImm _ => true
  | .nop => true
  | .usbcImm _ => true
  | .cpxAbs _ => true
  | .sbcAbs _ => true
  | .incAbs _ => true
  | .isbAbs _ => true
  | .beq _ => true
  | .sbcIndY _ => true
  | .isbIndY _ => true
  | .sbcZpX _ => true
  | .incZpX _ => true
  | .isbZpX _ => true
  | .sed => true
  | .sbcAbsY _ => true
  | .isbAbsY _ => true
  | .sbcAbsX _ => true
  | .incAbsX _ => true
  | .isbAbsX _ => true

/-- An admitted cartridge: PRG and CHR lists canonical and within their lengths, and mapper 0 (R78). -/
def Cartridge.wellFormed (c : Cartridge) : Bool :=
  c.prg.wf && c.prg.below c.prgSize.bytes && c.chr.wf && c.chr.below c.chrLen && decide (c.mapper = 0)

/-- A configuration is well-formed when its cartridge is; every other parameter of 00_scope.md R8 is free. -/
def Config.wellFormed (cfg : Config) : Bool := cfg.cart.wellFormed

end Sys2Proof
end

