-- ==== Sys2Proof/Safety.lean ====
section
/-! DEFINITION. The terms claims are stated in: the invariant of the machine, runs with host operations between steps,
the frames of an instruction, and the operand forms of each mnemonic. -/

namespace Sys2Proof.Machine

/-! The invariant. -/

/-- The fault record is there exactly in Faulted and Jammed (10_state.md R39), and of kind Jam exactly in Jammed
(60_exceptions.md R306, R309). -/
def RecordFits (run : RunState) : Option FaultRecord → Prop
  | none => run ≠ .faulted ∧ run ≠ .jammed
  | some r => if r.kind = .jam then run = .jammed else run = .faulted

/-- The invariant of every fetch boundary: bit 5 of P is 1 and B is 0 (10_state.md R27, R28), RAM is canonical and
within 0x0000..0x7FFF (R42), the configuration is well-formed, the record fits the run state, and tied interrupt lines
are inactive (R40). -/
def BoundaryInv (s : State) : Prop :=
  s.p.getLsbD 5 = true ∧ s.p.getLsbD 4 = false ∧ s.ram.wf = true ∧ s.ram.below 0x8000 = true ∧
    s.cfg.wellFormed = true ∧ RecordFits s.run s.fault ∧
    (s.cfg.intLines = .tiedInactive → s.irq = false ∧ s.nmiPending = false)

/-! Runs (70_reset_and_hazards.md R357). -/

/-- What the host does next: a step with its controller byte, or an operation between steps. -/
inductive HostMove where
  | step (ctrl : Byte)
  | op (o : HostOp)
  deriving DecidableEq, Repr

/-- The state after one move; none where the run state has no step. -/
def State.afterMove (s : State) : HostMove → Option State
  | .step ctrl =>
    match stepWith ctrl s with
    | .next t => some t
    | .fault _ => none
    | .refused _ => none
  | .op o => some (s.afterHost o)

/-- The state after a list of moves. -/
def State.afterMoves (s : State) : List HostMove → Option State
  | [] => some s
  | m :: ms => (s.afterMove m).bind (fun t => State.afterMoves t ms)

/-- A run has ended exactly when its run state is Halted (R357). -/
def Ended (s : State) : Prop := s.run = .halted

/-- Pushes in list order. -/
def State.pushAll (s : State) (vs : List Byte) : State := vs.foldl State.push s

/-- That many pops: the bytes in the order they come back, and the state after. -/
def State.popMany (s : State) : Nat → List Byte × State
  | 0 => ([], s)
  | n + 1 =>
    let v := s.pop
    let rest := State.popMany v.2 n
    (v.1 :: rest.1, rest.2)

/-- The same state with another `TRACE` parameter. -/
def State.withTrace (s : State) (on : Bool) : State := s.setCfg { s.cfg with trace := on }

/-! Frames. -/

/-- `SetZN(r)` as seen in the state after (40_core_and_addressing.md R146). -/
def SetsZN (r : Byte) (t : State) : Prop := t.flag .z = decide (r = 0) ∧ t.flag .n = r.getLsbD 7

/-- Every flag but the written ones reads as before. -/
def FlagsKept (s t : State) (written : List Flag) : Prop := ∀ f, f ∉ written → t.flag f = s.flag f

/-- Every byte of memory reads as before. -/
def MemoryKept (s t : State) : Prop := ∀ addr, t.read addr = s.read addr

/-- Every byte of memory but one reads as before. -/
def MemoryKeptBut (s t : State) (ea : Word) : Prop := ∀ addr, addr ≠ ea → t.read addr = s.read addr

/-- Every byte of memory outside a list of addresses reads as before. -/
def MemoryKeptOutside (s t : State) (written : List Word) : Prop := ∀ addr, addr ∉ written → t.read addr = s.read addr

/-- The address is in RAM. -/
def InRam (addr : Word) : Prop := addr.toNat < 0x8000

/-- The opcode byte of an instruction. -/
def opcodeOf (i : Instr) : Byte := (encode i).headD 0x00

/-- The descriptor of an instruction (30_encoding.md R95). -/
def descriptorOf (i : Instr) : Option Descriptor := descriptor (opcodeOf i)

/-- The instruction answers the precise `ReadOnlyViolation` fault for a write of `v` at its effective address: run and
the record change and nothing else (60_exceptions.md R302, R306). -/
def FaultsReadOnly (i : Instr) (o : Operand) (v : Byte) (s : State) : Prop :=
  exec i s = .next
    { s with
      run := .faulted
      fault := some { kind := .readOnlyViolation (o.ea s) v, pc := s.pc, opcode := opcodeOf i } }

/-! The operand forms of each mnemonic, each instruction with its operand: every memory and immediate row of
30_encoding.md R98, for an operand byte `b` and an operand word `w`. -/

def ldaForms (b : Byte) (w : Word) : List (Instr × Operand) :=
  [(.ldaIndX b, .indX b), (.ldaZp b, .zp b), (.ldaImm b, .imm b), (.ldaAbs w, .abs w), (.ldaIndY b, .indY b),
   (.ldaZpX b, .zpX b), (.ldaAbsY w, .absY w), (.ldaAbsX w, .absX w)]

def ldxForms (b : Byte) (w : Word) : List (Instr × Operand) :=
  [(.ldxImm b, .imm b), (.ldxZp b, .zp b), (.ldxAbs w, .abs w), (.ldxZpY b, .zpY b), (.ldxAbsY w, .absY w)]

def ldyForms (b : Byte) (w : Word) : List (Instr × Operand) :=
  [(.ldyImm b, .imm b), (.ldyZp b, .zp b), (.ldyAbs w, .abs w), (.ldyZpX b, .zpX b), (.ldyAbsX w, .absX w)]

def staForms (b : Byte) (w : Word) : List (Instr × Operand) :=
  [(.staIndX b, .indX b), (.staZp b, .zp b), (.staAbs w, .abs w), (.staIndY b, .indY b), (.staZpX b, .zpX b),
   (.staAbsY w, .absY w), (.staAbsX w, .absX w)]

def stxForms (b : Byte) (w : Word) : List (Instr × Operand) :=
  [(.stxZp b, .zp b), (.stxAbs w, .abs w), (.stxZpY b, .zpY b)]

def styForms (b : Byte) (w : Word) : List (Instr × Operand) :=
  [(.styZp b, .zp b), (.styAbs w, .abs w), (.styZpX b, .zpX b)]

def adcForms (b : Byte) (w : Word) : List (Instr × Operand) :=
  [(.adcIndX b, .indX b), (.adcZp b, .zp b), (.adcImm b, .imm b), (.adcAbs w, .abs w), (.adcIndY b, .indY b),
   (.adcZpX b, .zpX b), (.adcAbsY w, .absY w), (.adcAbsX w, .absX w)]

def sbcForms (b : Byte) (w : Word) : List (Instr × Operand) :=
  [(.sbcIndX b, .indX b), (.sbcZp b, .zp b), (.sbcImm b, .imm b), (.sbcAbs w, .abs w), (.sbcIndY b, .indY b),
   (.sbcZpX b, .zpX b), (.sbcAbsY w, .absY w), (.sbcAbsX w, .absX w)]

def andForms (b : Byte) (w : Word) : List (Instr × Operand) :=
  [(.andIndX b, .indX b), (.andZp b, .zp b), (.andImm b, .imm b), (.andAbs w, .abs w), (.andIndY b, .indY b),
   (.andZpX b, .zpX b), (.andAbsY w, .absY w), (.andAbsX w, .absX w)]

def oraForms (b : Byte) (w : Word) : List (Instr × Operand) :=
  [(.oraIndX b, .indX b), (.oraZp b, .zp b), (.oraImm b, .imm b), (.oraAbs w, .abs w), (.oraIndY b, .indY b),
   (.oraZpX b, .zpX b), (.oraAbsY w, .absY w), (.oraAbsX w, .absX w)]

def eorForms (b : Byte) (w : Word) : List (Instr × Operand) :=
  [(.eorIndX b, .indX b), (.eorZp b, .zp b), (.eorImm b, .imm b), (.eorAbs w, .abs w), (.eorIndY b, .indY b),
   (.eorZpX b, .zpX b), (.eorAbsY w, .absY w), (.eorAbsX w, .absX w)]

def bitForms (b : Byte) (w : Word) : List (Instr × Operand) :=
  [(.bitZp b, .zp b), (.bitAbs w, .abs w)]

def cmpForms (b : Byte) (w : Word) : List (Instr × Operand) :=
  [(.cmpIndX b, .indX b), (.cmpZp b, .zp b), (.cmpImm b, .imm b), (.cmpAbs w, .abs w), (.cmpIndY b, .indY b),
   (.cmpZpX b, .zpX b), (.cmpAbsY w, .absY w), (.cmpAbsX w, .absX w)]

def cpxForms (b : Byte) (w : Word) : List (Instr × Operand) :=
  [(.cpxImm b, .imm b), (.cpxZp b, .zp b), (.cpxAbs w, .abs w)]

def cpyForms (b : Byte) (w : Word) : List (Instr × Operand) :=
  [(.cpyImm b, .imm b), (.cpyZp b, .zp b), (.cpyAbs w, .abs w)]

def incForms (b : Byte) (w : Word) : List (Instr × Operand) :=
  [(.incZp b, .zp b), (.incAbs w, .abs w), (.incZpX b, .zpX b), (.incAbsX w, .absX w)]

def decForms (b : Byte) (w : Word) : List (Instr × Operand) :=
  [(.decZp b, .zp b), (.decAbs w, .abs w), (.decZpX b, .zpX b), (.decAbsX w, .absX w)]

def aslForms (b : Byte) (w : Word) : List (Instr × Operand) :=
  [(.aslZp b, .zp b), (.aslAbs w, .abs w), (.aslZpX b, .zpX b), (.aslAbsX w, .absX w)]

def lsrForms (b : Byte) (w : Word) : List (Instr × Operand) :=
  [(.lsrZp b, .zp b), (.lsrAbs w, .abs w), (.lsrZpX b, .zpX b), (.lsrAbsX w, .absX w)]

def rolForms (b : Byte) (w : Word) : List (Instr × Operand) :=
  [(.rolZp b, .zp b), (.rolAbs w, .abs w), (.rolZpX b, .zpX b), (.rolAbsX w, .absX w)]

def rorForms (b : Byte) (w : Word) : List (Instr × Operand) :=
  [(.rorZp b, .zp b), (.rorAbs w, .abs w), (.rorZpX b, .zpX b), (.rorAbsX w, .absX w)]

def sloForms (b : Byte) (w : Word) : List (Instr × Operand) :=
  [(.sloIndX b, .indX b), (.sloZp b, .zp b), (.sloAbs w, .abs w), (.sloIndY b, .indY b), (.sloZpX b, .zpX b),
   (.sloAbsY w, .absY w), (.sloAbsX w, .absX w)]

def rlaForms (b : Byte) (w : Word) : List (Instr × Operand) :=
  [(.rlaIndX b, .indX b), (.rlaZp b, .zp b), (.rlaAbs w, .abs w), (.rlaIndY b, .indY b), (.rlaZpX b, .zpX b),
   (.rlaAbsY w, .absY w), (.rlaAbsX w, .absX w)]

def sreForms (b : Byte) (w : Word) : List (Instr × Operand) :=
  [(.sreIndX b, .indX b), (.sreZp b, .zp b), (.sreAbs w, .abs w), (.sreIndY b, .indY b), (.sreZpX b, .zpX b),
   (.sreAbsY w, .absY w), (.sreAbsX w, .absX w)]

def rraForms (b : Byte) (w : Word) : List (Instr × Operand) :=
  [(.rraIndX b, .indX b), (.rraZp b, .zp b), (.rraAbs w, .abs w), (.rraIndY b, .indY b), (.rraZpX b, .zpX b),
   (.rraAbsY w, .absY w), (.rraAbsX w, .absX w)]

def dcpForms (b : Byte) (w : Word) : List (Instr × Operand) :=
  [(.dcpIndX b, .indX b), (.dcpZp b, .zp b), (.dcpAbs w, .abs w), (.dcpIndY b, .indY b), (.dcpZpX b, .zpX b),
   (.dcpAbsY w, .absY w), (.dcpAbsX w, .absX w)]

def isbForms (b : Byte) (w : Word) : List (Instr × Operand) :=
  [(.isbIndX b, .indX b), (.isbZp b, .zp b), (.isbAbs w, .abs w), (.isbIndY b, .indY b), (.isbZpX b, .zpX b),
   (.isbAbsY w, .absY w), (.isbAbsX w, .absX w)]

def saxForms (b : Byte) (w : Word) : List (Instr × Operand) :=
  [(.saxIndX b, .indX b), (.saxZp b, .zp b), (.saxAbs w, .abs w), (.saxZpY b, .zpY b)]

def laxForms (b : Byte) (w : Word) : List (Instr × Operand) :=
  [(.laxIndX b, .indX b), (.laxZp b, .zp b), (.laxAbs w, .abs w), (.laxIndY b, .indY b), (.laxZpY b, .zpY b),
   (.laxAbsY w, .absY w)]

def lasForms (_ : Byte) (w : Word) : List (Instr × Operand) :=
  [(.lasAbsY w, .absY w)]

def ancForms (op : Byte) (b : Byte) (_ : Word) : List (Instr × Operand) :=
  [(.ancImm op b, .imm b)]

def alrForms (b : Byte) (_ : Word) : List (Instr × Operand) :=
  [(.alrImm b, .imm b)]

def arrForms (b : Byte) (_ : Word) : List (Instr × Operand) :=
  [(.arrImm b, .imm b)]

def sbxForms (b : Byte) (_ : Word) : List (Instr × Operand) :=
  [(.sbxImm b, .imm b)]

def usbcForms (b : Byte) (_ : Word) : List (Instr × Operand) :=
  [(.usbcImm b, .imm b)]

def nopForms (op : Byte) (b : Byte) (w : Word) : List (Instr × Operand) :=
  [(.nopZp op b, .zp b), (.nopAbs w, .abs w), (.nopZpX op b, .zpX b), (.nopAbsX op w, .absX w),
   (.nopImm op b, .imm b)]

end Sys2Proof.Machine
end

