-- ==== Sys2Proof/Certificates/Slice0/Obligations.lean ====
section
/-! DEFINITION. The obligations: what the spec's numbered rules say of the machine, each stated over every state. -/

open Sys2Proof Sys2Proof.Machine

/-- State.reset has A = X = Y = 0x00, SP = 0xFD, P = 0x24, run Idle, no stop request, no fault record, IRQ deasserted
and NMI latch clear, and its PC is the word its bus shows at 0xFFFC. That no ENTRY_PC is given, and the all-zero
cartridge and RAM, are the model's choices (log 2, 3, 4). (10_state.md R47, 70_reset_and_hazards.md R340) -/
def Obligations.ResetStateHoldsTheResetValues : Prop :=
  State.reset.a = 0x00 ∧ State.reset.x = 0x00 ∧ State.reset.y = 0x00 ∧ State.reset.sp = 0xFD ∧
    State.reset.p = 0x24 ∧ State.reset.run = .idle ∧ State.reset.stopReq = false ∧ State.reset.fault = none ∧
    State.reset.irq = false ∧ State.reset.nmiPending = false ∧ State.reset.pc = State.reset.read16 0xFFFC

/-- From every state, in any run state, Reset() sets A, X, Y to 0x00, SP to 0xFD, P to 0x24, PC to ENTRY_PC when given
and else to the word at 0xFFFC, run to Idle, and clears the stop request, the fault record, IRQ and the NMI latch;
RAM, PRG and the cartridge record are not changed. (R340) -/
def Obligations.ResetOperationSetsTheResetValues : Prop :=
  ∀ s : State,
    s.applyReset =
      { s with
        a := 0x00, x := 0x00, y := 0x00, sp := 0xFD, p := 0x24
        pc := match s.cfg.entryPc with
          | some e => e
          | none => s.read16 0xFFFC
        run := .idle, stopReq := false, fault := none, irq := false, nmiPending := false }

/-- For every image, RAM_INIT (a canonical list of bytes) and parameters: a loader error e gives no core and is
reported; a loaded cartridge gives a core with that cartridge and those parameters, the values of Reset(), run Idle,
and every RAM byte reading RAM_INIT. That RAM_INIT is given as a list and the parameters are carried in the state is
log 2 and log 1 (DESIGN CHOICE). (70_reset_and_hazards.md R341, 20_memory.md R84) -/
def Obligations.ConstructionLoadsThenResets : Prop :=
  ∀ (image : List Byte) (ramInit : Memory) (entryPc : Option Word) (hostCtrl : HostCtrl) (intLines : IntLines)
    (trace : Bool),
    (∀ e, loadImage image = .error e → construct image ramInit entryPc hostCtrl intLines trace = .error e) ∧
    (∀ cart, loadImage image = .ok cart →
      ∃ s, construct image ramInit entryPc hostCtrl intLines trace = .ok s ∧
        s.cfg = { cart := cart, entryPc := entryPc, hostCtrl := hostCtrl, intLines := intLines, trace := trace } ∧
        s.applyReset = s ∧ s.run = .idle ∧
        (ramInit.wf = true → ∀ addr, InRam addr → s.read addr = ramInit.read addr.toNat))

/-- loadImage succeeds exactly when the image has a 16-byte header, the magic, version bits 0, all the bytes its
header counts, mapper 0 and 16384 or 32768 PRG bytes. A short header or a wrong magic is InvalidImage whatever the
version; with the magic right, a version other than 0 is UnsupportedFormat; with both right, missing bytes are
InvalidImage; with those there, a mapper other than 0 or another PRG length is UnsupportedConfiguration. (R71, R73,
R78, R79, R84) -/
def Obligations.LoaderAdmitsExactlyTheWellFormedImages : Prop :=
  ∀ image : List Byte,
    let header := fun k => image.getD k 0
    let trainer := if (header 6).getLsbD 2 then 512 else 0
    let prg := (header 4).toNat * 16384
    let whole := 16 + trainer + prg + (header 5).toNat * 8192 ≤ image.length
    let magic := 16 ≤ image.length ∧ header 0 = 0x4E ∧ header 1 = 0x45 ∧ header 2 = 0x53 ∧ header 3 = 0x1A
    let version0 := header 7 &&& 0x0C = 0
    let admitted := (header 7).toNat / 16 = 0 ∧ (header 6).toNat / 16 = 0 ∧ (prg = 16384 ∨ prg = 32768)
    ((∃ cart, loadImage image = .ok cart) ↔ magic ∧ version0 ∧ whole ∧ admitted) ∧
    (¬ magic → loadImage image = .error .invalidImage) ∧
    (magic → ¬ version0 → loadImage image = .error .unsupportedFormat) ∧
    (magic → version0 → ¬ whole → loadImage image = .error .invalidImage) ∧
    (magic → version0 → whole → ¬ admitted → loadImage image = .error .unsupportedConfiguration)

/-- When an image loads, PRG byte k is image[16 + t + k] and CHR byte k is image[16 + t + prgLen + k], with t = 512
when byte 6 bit 2 is set and 0 otherwise; the PRG and CHR lengths, the mirroring mode, the persistent-RAM flag and the
mapper id are those of the header. (R72, R74, R75, R76, R77) -/
def Obligations.LoadedCartridgeHoldsTheSlices : Prop :=
  ∀ (image : List Byte) (cart : Cartridge), loadImage image = .ok cart →
    let header := fun k => image.getD k 0
    let trainer := if (header 6).getLsbD 2 then 512 else 0
    let prg := (header 4).toNat * 16384
    cart.prgSize.bytes = prg ∧ cart.chrLen = (header 5).toNat * 8192 ∧
    (∀ k < prg, cart.prg.read k = image.getD (16 + trainer + k) 0) ∧
    (∀ k < cart.chrLen, cart.chr.read k = image.getD (16 + trainer + prg + k) 0) ∧
    cart.persistentRam = (header 6).getLsbD 1 ∧
    cart.mapper.toNat = (header 7).toNat / 16 * 16 + (header 6).toNat / 16 ∧
    cart.mirroring =
      (if (header 6).getLsbD 3 then .fourScreen else if (header 6).getLsbD 0 then .vertical else .horizontal)

/-- State.reset meets BoundaryInv: bit 5 of P is 1, B is 0, RAM is canonical and in range, the configuration is well-
formed, the record fits the run state, and tied lines are inactive. (10_state.md R27, 10_state.md R28, 10_state.md
R39, 10_state.md R42) -/
def Obligations.ResetStateMeetsTheInvariant : Prop :=
  BoundaryInv State.reset

/-- For every state that meets BoundaryInv (bit 5 of P is 1, B is 0, RAM canonical and within 0x0000 to 0x7FFF,
configuration well-formed, the fault record there exactly in Faulted and Jammed and of kind Jam exactly in Jammed,
tied lines inactive), whatever the controller byte, a step that answers a next state answers one that meets
BoundaryInv. (10_state.md R27, 10_state.md R28, 10_state.md R39, 10_state.md R42, 60_exceptions.md R306,
60_exceptions.md R309) -/
def Obligations.StepKeepsTheInvariant : Prop :=
  ∀ (ctrl : Byte) (s t : State), BoundaryInv s → (step s = .next t ∨ stepWith ctrl s = .next t) → BoundaryInv t

/-- For every state that meets BoundaryInv, the state after any host operation between steps meets BoundaryInv. That
SetIRQ and AssertNMI change nothing with tied lines is log 8 (DEDUCED). (70_reset_and_hazards.md R340,
70_reset_and_hazards.md R360, 60_exceptions.md R315) -/
def Obligations.HostOperationsKeepTheInvariant : Prop :=
  ∀ (s : State) (o : HostOp), BoundaryInv s → BoundaryInv (s.afterHost o)

/-- For every image that loads, every RAM_INIT and every parameter, every state reached from construction by any list
of steps (with any controller bytes) and host operations meets BoundaryInv. One step and one host operation are
StepKeepsTheInvariant and HostOperationsKeepTheInvariant; construction is the base. (70_reset_and_hazards.md R341,
70_reset_and_hazards.md R357, 10_state.md R27, 10_state.md R28, 10_state.md R39) -/
def Obligations.EveryRunOfAConstructedCoreKeepsTheInvariant : Prop :=
  ∀ (image : List Byte) (ramInit : Memory) (entryPc : Option Word) (hostCtrl : HostCtrl) (intLines : IntLines)
    (trace : Bool) (s t : State) (moves : List HostMove),
    construct image ramInit entryPc hostCtrl intLines trace = .ok s → s.afterMoves moves = some t → BoundaryInv t

/-- Along every list of steps and host operations from every state, the configuration (cartridge record and
parameters) stays the same, and every byte at 0x8000 or above reads the same. The cartridge is that of R43 and R44;
ENTRY_PC, HOST_CTRL, INT_LINES and TRACE are the parameters of R8, which says that none is state: that the model
carries them and the cartridge in the state, as a field nothing changes, is log 1 (DESIGN CHOICE). (00_scope.md R8,
10_state.md R43, 10_state.md R44, 20_memory.md R56) -/
def Obligations.RomAndConfigurationNeverChange : Prop :=
  ∀ (s t : State) (moves : List HostMove), s.afterMoves moves = some t →
    t.cfg = s.cfg ∧ ∀ addr, ¬ InRam addr → t.read addr = s.read addr

/-- In run state Idle or Running, with no stop request, PC not 0xFFFF and no interrupt pending: if the bytes at PC
decode to i after the host's boundary write, stepWith ctrl s is exec i of the state with run Running after that write;
and with HOST_CTRL = none the write is nothing. Sys2Proof.Machine.step, which has no argument ctrl, is stepWith of the
free byte Config.freeCtrl s.ctrlDraws: this clause is the choice of the model and not of the spec, which makes ctrl an
argument of Step in R361 (log 5, DESIGN CHOICE). (40_core_and_addressing.md R120, 40_core_and_addressing.md R125,
70_reset_and_hazards.md R361) -/
def Obligations.StepRunsTheDecodedInstruction : Prop :=
  ∀ (ctrl : Byte) (s : State) (i : Instr) (rest : List Byte),
    (s.run = .idle ∨ s.run = .running) → s.stopReq = false → s.pc ≠ 0xFFFF → s.interruptPending = false →
    decode (s.readyToFetch ctrl).fetchBytes = .ok (i, rest) →
    stepWith ctrl s = exec i (s.readyToFetch ctrl) ∧
      step s = stepWith (Config.freeCtrl s.ctrlDraws) s ∧
      (s.cfg.hostCtrl = .none → s.readyToFetch ctrl = { s with run := .running })

/-- In run state Idle or Running a stop request halts; else PC = 0xFFFF halts; else, with host-driven lines, a pending
NMI, or an IRQ with I clear, enters the interrupt in place of an instruction. A halt changes run alone; that it is a
next state is log 6 (DEDUCED). With tied lines no interrupt is pending. (40_core_and_addressing.md R120,
60_exceptions.md R314, 60_exceptions.md R316, 60_exceptions.md R317, 70_reset_and_hazards.md R352,
70_reset_and_hazards.md R353) -/
def Obligations.BoundaryEventsComeInOrder : Prop :=
  ∀ (ctrl : Byte) (s : State), (s.run = .idle ∨ s.run = .running) →
    (s.stopReq = true → stepWith ctrl s = .next { s with run := .halted }) ∧
    (s.stopReq = false → s.pc = 0xFFFF → stepWith ctrl s = .next { s with run := .halted }) ∧
    (s.stopReq = false → s.pc ≠ 0xFFFF → s.cfg.intLines = .hostDriven →
      (s.nmiPending = true ∨ (s.irq = true ∧ s.flag .i = false)) →
      stepWith ctrl s = .next (({ s with run := .running } : State).interruptEntry)) ∧
    (s.cfg.intLines = .tiedInactive → s.interruptPending = false) ∧
    (s.nmiPending = false → s.flag .i = true → s.interruptPending = false)

/-- In run state Halted, Faulted or Jammed every step answers that there is no step, naming the run state and record;
and no host operation other than Reset changes the run state, which Reset sets to Idle. That the model says there is
no step by the named answers Fault.halted, Fault.faulted and Fault.jammed is log 6 (DEDUCED). (70_reset_and_hazards.md
R340, 70_reset_and_hazards.md R354, 70_reset_and_hazards.md R355, 70_reset_and_hazards.md R356,
70_reset_and_hazards.md R360) -/
def Obligations.StoppedRunStatesHaveNoStep : Prop :=
  ∀ (ctrl : Byte) (s : State),
    (s.run = .halted → stepWith ctrl s = .fault .halted) ∧
    (s.run = .faulted → stepWith ctrl s = .fault (.faulted s.fault)) ∧
    (s.run = .jammed → stepWith ctrl s = .fault (.jammed s.fault)) ∧
    ((s.run = .halted ∨ s.run = .faulted ∨ s.run = .jammed) →
      ∀ (m : HostMove) (t : State), s.afterMove m = some t →
        (m = .op .reset ∧ t.run = .idle) ∨ (m ≠ .op .reset ∧ t.run = s.run))

/-- At a boundary where an interrupt is taken, the step answers a next state, whatever the controller byte, and emits
no trace: the high and then the low byte of PC and then P with B = 0 and bit 5 = 1 are pushed, SP is lowered by 3, I
is set and no other flag changes, the NMI latch is clear, run is Running, and PC is loaded from 0xFFFA for an NMI and
from 0xFFFE otherwise; every other field and every other byte of memory is unchanged. (R318) -/
def Obligations.InterruptEntrySavesPcAndStatus : Prop :=
  ∀ (ctrl : Byte) (s : State), s.boundary = .interrupt →
    s.emittedTrace ctrl = none ∧
    ∃ t, stepWith ctrl s = .next t ∧
      t = { s with
            run := .running, sp := s.sp - 3, p := t.p, ram := t.ram, nmiPending := false
            pc := s.read16 (if s.nmiPending then 0xFFFA else 0xFFFE) } ∧
      t.flag .i = true ∧ FlagsKept s t [.i] ∧
      t.read (stackAddr s.sp) = hi8 s.pc ∧ t.read (stackAddr (s.sp - 1)) = lo8 s.pc ∧
      t.read (stackAddr (s.sp - 2)) = (s.getP &&& 0xEF) ||| 0x20 ∧
      MemoryKeptOutside s t [stackAddr s.sp, stackAddr (s.sp - 1), stackAddr (s.sp - 2)]

/-- HostBoundary(ctrl) with HOST_CTRL = none changes nothing; with any it makes 0x00FF read ctrl, leaves every other
byte, and changes no other field but the model's draw counter (log 5). (70_reset_and_hazards.md R361, 20_memory.md
R59) -/
def Obligations.HostBoundaryWritesTheControllerByte : Prop :=
  ∀ (ctrl : Byte) (s : State),
    let t := s.hostBoundary ctrl
    (s.cfg.hostCtrl = .none → t = s) ∧
    (s.cfg.hostCtrl = .any →
      t.read 0x00FF = ctrl ∧ MemoryKeptBut s t 0x00FF ∧
      t = { s with ram := t.ram, ctrlDraws := s.ctrlDraws + 1 })

/-- For every state, controller byte and TRACE value: changing TRACE before a step and changing it after give the same
next state, and a state that has no step has none with either; and where TRACE is off, or the step takes an interrupt
or halts, no snapshot is emitted. That TRACE is carried in the state is log 1 (DESIGN CHOICE); that a state without a
step answers a named fault is log 6 (DEDUCED). (60_exceptions.md R331, 60_exceptions.md R330) -/
def Obligations.TraceParameterChangesNoStep : Prop :=
  ∀ (ctrl : Byte) (s : State) (on : Bool),
    (∀ t, stepWith ctrl s = .next t → stepWith ctrl (s.withTrace on) = .next (t.withTrace on)) ∧
    (∀ f, stepWith ctrl s = .fault f → stepWith ctrl (s.withTrace on) = .fault f) ∧
    (s.cfg.trace = false → s.emittedTrace ctrl = none) ∧
    (s.stopReq = true ∨ s.pc = 0xFFFF ∨ s.interruptPending = true → s.emittedTrace ctrl = none)

/-- At a boundary that fetches, with TRACE = on, the step emits one snapshot: the PC, the opcode's length of bytes
from PC on (after the host's boundary write), and A, X, Y, P and SP before execution. The text is informative and not
stated. (60_exceptions.md R330, 40_core_and_addressing.md R120) -/
def Obligations.TraceSnapshotHoldsTheStateBeforeExecution : Prop :=
  ∀ (ctrl : Byte) (s : State), s.boundary = .fetch → s.cfg.trace = true →
    ∃ (d : Descriptor) (e : TraceEntry),
      descriptor ((s.readyToFetch ctrl).read s.pc) = some d ∧ s.emittedTrace ctrl = some e ∧
      e.pc = s.pc ∧ e.a = s.a ∧ e.x = s.x ∧ e.y = s.y ∧ e.p = s.getP ∧ e.sp = s.sp ∧
      e.bytes.length = d.length ∧
      ∀ k < d.length, e.bytes[k]? = some ((s.readyToFetch ctrl).read (s.pc + BitVec.ofNat 16 k))

/-- For every well-formed instruction, at every operand value, and any bytes after it, decode of its encoding followed
by those bytes answers that instruction and those bytes. (30_encoding.md R91, 30_encoding.md R93, 30_encoding.md R97,
30_encoding.md R98, 30_encoding.md R104) -/
def Obligations.DecodeOfEncodeIsTheInstruction : Prop :=
  ∀ (i : Instr) (rest : List Byte), i.wellFormed = true → decode (encode i ++ rest) = .ok (i, rest)

/-- For every byte list that decodes to an instruction and a rest, the instruction is well-formed and its encoding
followed by the rest is the byte list: no two instructions share an encoding, and no bit is dropped. (30_encoding.md
R91, 30_encoding.md R94, 30_encoding.md R98) -/
def Obligations.EncodeOfDecodeIsTheBytes : Prop :=
  ∀ (bytes : List Byte) (i : Instr) (rest : List Byte), decode bytes = .ok (i, rest) →
    i.wellFormed = true ∧ encode i ++ rest = bytes

/-- Every opcode byte followed by two bytes decodes to an instruction, so at every state the bytes at PC decode and
the fetch runs exec of an instruction. (R96) -/
def Obligations.DecodeNeverMisses : Prop :=
  (∀ (op b1 b2 : Byte) (rest : List Byte), ∃ i after, decode (op :: b1 :: b2 :: rest) = .ok (i, after)) ∧
    ∀ s : State, ∃ i after, decode s.fetchBytes = .ok (i, after) ∧ fetchAndExec s = exec i s

/-- When the bytes at PC decode to i, byte k of the encoding of i is the byte the bus shows at PC + k modulo 65536,
for every k below its length: so an immediate operand is the byte at PC + 1, and a word operand has its low byte there
and its high byte at PC + 2. (30_encoding.md R91, 30_encoding.md R93, 40_core_and_addressing.md R131) -/
def Obligations.FetchedOperandsAreTheBytesAfterTheOpcode : Prop :=
  ∀ (s : State) (i : Instr) (rest : List Byte), decode s.fetchBytes = .ok (i, rest) →
    ∀ k < (encode i).length, (encode i)[k]? = some (s.read (s.pc + BitVec.ofNat 16 k))

/-- For every well-formed instruction the table has its opcode; the encoding has as many bytes as the descriptor's
length; and that length is 1 for implied and accumulator, 3 for absolute, absoluteX, absoluteY and indirect, and 2 for
every other mode. BRK and JAM have length 1. (30_encoding.md R104, 30_encoding.md R92) -/
def Obligations.EncodingLengthIsTheModes : Prop :=
  (∀ i : Instr, i.wellFormed = true →
    ∃ d, descriptorOf i = some d ∧ (encode i).length = d.length ∧
      d.length =
        (if d.mode = .implied ∨ d.mode = .accumulator then 1
         else if d.mode = .absolute ∨ d.mode = .absoluteX ∨ d.mode = .absoluteY ∨ d.mode = .indirect then 3
         else 2)) ∧
    (encode .brk).length = 1 ∧ ∀ op, (encode (.jam op)).length = 1

/-- Words of every family, written from 30_encoding.md R98: BD 34 12 is LDA absoluteX, 96 10 is STX zeroPageY, 28 is
PLP, 71 20 is ADC indirectY, 6A is ROR accumulator, 6C FF 02 is JMP indirect, F0 FE is BEQ, F8 is SED, C3 40 is DCP
indirectX, 5C 00 80 is NOP absoluteX, 92 is JAM and 9B 00 02 is TAS absoluteY. (30_encoding.md R91, 30_encoding.md
R98) -/
def Obligations.SampleWordsDecode : Prop :=
  decode [0xBD, 0x34, 0x12] = .ok (.ldaAbsX 0x1234, []) ∧ decode [0x96, 0x10] = .ok (.stxZpY 0x10, []) ∧
    decode [0x28] = .ok (.plp, []) ∧ decode [0x71, 0x20] = .ok (.adcIndY 0x20, []) ∧
    decode [0x6A] = .ok (.rorAcc, []) ∧ decode [0x6C, 0xFF, 0x02] = .ok (.jmpInd 0x02FF, []) ∧
    decode [0xF0, 0xFE] = .ok (.beq 0xFE, []) ∧ decode [0xF8] = .ok (.sed, []) ∧
    decode [0xC3, 0x40] = .ok (.dcpIndX 0x40, []) ∧ decode [0x5C, 0x00, 0x80] = .ok (.nopAbsX 0x5C 0x8000, []) ∧
    decode [0x92] = .ok (.jam 0x92, []) ∧ decode [0x9B, 0x00, 0x02] = .ok (.tasAbsY 0x0200, [])

/-- For every state: with one 16 KiB bank, PRG byte k is read at 0x8000 + k and at 0xC000 + k for every k below
0x4000; with two banks, PRG byte k is read at 0x8000 + k for every k below 0x8000. (R54) -/
def Obligations.RomWindowShowsPrgMirrored : Prop :=
  ∀ s : State,
    (s.cfg.cart.prgSize = .kib16 → ∀ k < 0x4000,
      s.read (BitVec.ofNat 16 (0x8000 + k)) = s.cfg.cart.prg.read k ∧
      s.read (BitVec.ofNat 16 (0xC000 + k)) = s.cfg.cart.prg.read k) ∧
    (s.cfg.cart.prgSize = .kib32 → ∀ k < 0x8000,
      s.read (BitVec.ofNat 16 (0x8000 + k)) = s.cfg.cart.prg.read k)

/-- For every state, address and byte: below 0x8000 the write succeeds, the byte then reads as written, every other
byte reads as before and no register changes; at or above 0x8000 the write answers no state (ReadOnlyViolation). (R56,
R57) -/
def Obligations.BusWriteChangesOneRamByteOrIsRefused : Prop :=
  ∀ (s : State) (addr : Word) (v : Byte),
    (InRam addr → ∃ t, s.write addr v = some t ∧ t = { s with ram := t.ram } ∧ t.read addr = v ∧
      MemoryKeptBut s t addr) ∧
    (¬ InRam addr → s.write addr v = none)

/-- MemRead(addr, 2) is 256 times the byte at addr + 1 modulo 65536 plus the byte at addr; MemRead16ZP(p) takes its
high byte from (p + 1) mod 256 in page zero; a word written at 0x0000 to 0x7FFE reads back, with the low byte at addr
and the high byte at addr + 1 and no other byte changed; a word write at 0x7FFF or above fails. (R60, R61, R62) -/
def Obligations.WordAccessesAreLittleEndian : Prop :=
  ∀ (s : State) (addr : Word) (p : Byte) (v : Word),
    (s.read16 addr).toNat =
      256 * (s.read (BitVec.ofNat 16 ((addr.toNat + 1) % 65536))).toNat + (s.read addr).toNat ∧
    (s.read16ZP p).toNat =
      256 * (s.read (BitVec.ofNat 16 ((p.toNat + 1) % 256))).toNat + (s.read (BitVec.ofNat 16 p.toNat)).toNat ∧
    (addr.toNat ≤ 0x7FFE → ∃ t, s.write16 addr v = some t ∧ t = { s with ram := t.ram } ∧ t.read16 addr = v ∧
      t.read addr = lo8 v ∧ t.read (addr + 1) = hi8 v ∧ MemoryKeptOutside s t [addr, addr + 1]) ∧
    (0x7FFF ≤ addr.toNat → s.write16 addr v = none)

/-- For every state and list of bytes, as many pops as pushes restore SP; when the list has at most 256 bytes the pops
return them in reverse order. At SP = 0x00 a push writes 0x0100 and leaves SP = 0xFF; at SP = 0xFF a pop reads 0x0100
and leaves SP = 0x00. (R66) -/
def Obligations.PushesThenPopsReturnInReverse : Prop :=
  ∀ (s : State) (vs : List Byte),
    ((s.pushAll vs).popMany vs.length).2.sp = s.sp ∧
    (vs.length ≤ 256 → ((s.pushAll vs).popMany vs.length).1 = vs.reverse) ∧
    (s.sp = 0x00 → ∀ v, (s.push v).read 0x0100 = v ∧ (s.push v).sp = 0xFF) ∧
    (s.sp = 0xFF → s.pop.1 = s.read 0x0100 ∧ s.pop.2.sp = 0x00)

/-- For every state, operand byte b and operand word w: zeroPage is b, zeroPageX (b + X) mod 256, zeroPageY (b + Y)
mod 256, absolute w, absoluteX (w + X) mod 65536, absoluteY (w + Y) mod 65536; indirectX is the word at zero-page slot
(b + X) mod 256 and indirectY the word at slot b plus Y modulo 65536, the high byte from the next slot modulo 256. The
operand byte of every form is the byte at its effective address; of immediate, the instruction's own byte, whose
address is PC + 1, PC being that of the opcode (R131; that the operand is the byte the decoder read, not read again,
is log 7, DEDUCED). (40_core_and_addressing.md R131, 40_core_and_addressing.md R132, 40_core_and_addressing.md R133,
40_core_and_addressing.md R134, 40_core_and_addressing.md R135, 40_core_and_addressing.md R136,
40_core_and_addressing.md R137, 40_core_and_addressing.md R141, 40_core_and_addressing.md R142,
40_core_and_addressing.md R145, 20_memory.md R62) -/
def Obligations.AddressingModesResolve : Prop :=
  ∀ (s : State) (b : Byte) (w : Word) (o : Operand),
    let slot := fun n => (s.read (BitVec.ofNat 16 (n % 256))).toNat
    ((Operand.zp b).ea s).toNat = b.toNat ∧
    ((Operand.zpX b).ea s).toNat = (b.toNat + s.x.toNat) % 256 ∧
    ((Operand.zpY b).ea s).toNat = (b.toNat + s.y.toNat) % 256 ∧
    ((Operand.abs w).ea s).toNat = w.toNat ∧
    ((Operand.absX w).ea s).toNat = (w.toNat + s.x.toNat) % 65536 ∧
    ((Operand.absY w).ea s).toNat = (w.toNat + s.y.toNat) % 65536 ∧
    ((Operand.indX b).ea s).toNat = 256 * slot (b.toNat + s.x.toNat + 1) + slot (b.toNat + s.x.toNat) ∧
    ((Operand.indY b).ea s).toNat = (256 * slot (b.toNat + 1) + slot b.toNat + s.y.toNat) % 65536 ∧
    ((∀ m, o ≠ .imm m) → o.value s = s.read (o.ea s)) ∧
    (Operand.imm b).value s = b ∧ (Operand.imm b).ea s = s.pc + 1

/-- From every state, JMP absolute sets PC to its operand and JMP indirect sets it to the target read from the
pointer: low byte at the pointer; high byte at pointer & 0xFF00 when the pointer's low byte is 0xFF, and else at
pointer + 1, so that the target is MemRead(ptr, 2). No register, flag or memory changes. (R139, R140, R220, R221) -/
def Obligations.JmpIndirectHasThePageBug : Prop :=
  ∀ (s : State) (ptr : Word),
    exec (.jmpAbs ptr) s = .next { s with pc := ptr } ∧
    ∃ t, exec (.jmpInd ptr) s = .next t ∧ t = { s with pc := t.pc } ∧ MemoryKept s t ∧
      (lo8 ptr = 0xFF → t.pc = wordOf (s.read (ptr &&& 0xFF00)) (s.read ptr)) ∧
      (lo8 ptr ≠ 0xFF → t.pc = s.read16 ptr)

/-- For every state and offset byte, the branch target is PC + 2 + sext_16(off), that is, the integer PC + 2 +
signed8(off) modulo 65536. (R144) -/
def Obligations.BranchTargetIsTheSignedOffset : Prop :=
  ∀ (s : State) (off : Byte),
    s.branchTarget off = s.pc + 2 + sext16 off ∧
    ((s.branchTarget off).toNat : Int) = ((s.pc.toNat : Int) + 2 + signed8 off) % 65536

/-- For every state and every form of LDA, LDX and LDY, exec answers a next state in which the register is the operand
byte M, Z and N are those of M, PC has advanced by the length, and every other register, flag and byte of memory is
unchanged. (R150, R151, R152) -/
def Obligations.LoadsSetTheRegisterAndZN : Prop :=
  ∀ (s : State) (b : Byte) (w : Word) (i : Instr) (o : Operand),
    ((i, o) ∈ ldaForms b w → ∃ t, exec i s = .next t ∧
      t = { s with a := o.value s, p := t.p, pc := s.pc + o.length } ∧
      SetsZN (o.value s) t ∧ FlagsKept s t [.z, .n] ∧ MemoryKept s t) ∧
    ((i, o) ∈ ldxForms b w → ∃ t, exec i s = .next t ∧
      t = { s with x := o.value s, p := t.p, pc := s.pc + o.length } ∧
      SetsZN (o.value s) t ∧ FlagsKept s t [.z, .n] ∧ MemoryKept s t) ∧
    ((i, o) ∈ ldyForms b w → ∃ t, exec i s = .next t ∧
      t = { s with y := o.value s, p := t.p, pc := s.pc + o.length } ∧
      SetsZN (o.value s) t ∧ FlagsKept s t [.z, .n] ∧ MemoryKept s t)

/-- From every state, TAX, TAY, TXA, TYA and TSX copy their source register and set Z and N from it, and TXS copies X
to SP with P unchanged; PC advances by 1 and nothing else changes. (R156, R157, R158, R159, R160, R161) -/
def Obligations.TransfersCopyTheRegister : Prop :=
  ∀ s : State,
    (∃ t, exec .tax s = .next t ∧ t = { s with x := s.a, p := t.p, pc := s.pc + 1 } ∧
      SetsZN s.a t ∧ FlagsKept s t [.z, .n] ∧ MemoryKept s t) ∧
    (∃ t, exec .tay s = .next t ∧ t = { s with y := s.a, p := t.p, pc := s.pc + 1 } ∧
      SetsZN s.a t ∧ FlagsKept s t [.z, .n] ∧ MemoryKept s t) ∧
    (∃ t, exec .txa s = .next t ∧ t = { s with a := s.x, p := t.p, pc := s.pc + 1 } ∧
      SetsZN s.x t ∧ FlagsKept s t [.z, .n] ∧ MemoryKept s t) ∧
    (∃ t, exec .tya s = .next t ∧ t = { s with a := s.y, p := t.p, pc := s.pc + 1 } ∧
      SetsZN s.y t ∧ FlagsKept s t [.z, .n] ∧ MemoryKept s t) ∧
    (∃ t, exec .tsx s = .next t ∧ t = { s with x := s.sp, p := t.p, pc := s.pc + 1 } ∧
      SetsZN s.sp t ∧ FlagsKept s t [.z, .n] ∧ MemoryKept s t) ∧
    (∃ t, exec .txs s = .next t ∧ t = { s with sp := s.x, pc := s.pc + 1 } ∧ MemoryKept s t)

/-- For every state and every form of STA, STX, STY and SAX whose effective address is below 0x8000, exec answers a
next state in which the byte there is A, X, Y or A AND X, PC has advanced by the length, and every register, flag and
other byte of memory is unchanged. (41_load_store_transfer.md R153, 41_load_store_transfer.md R154,
41_load_store_transfer.md R155, 47_undocumented.md R265) -/
def Obligations.StoresWriteOneRamByte : Prop :=
  ∀ (s : State) (b : Byte) (w : Word) (i : Instr) (o : Operand) (v : Byte),
    ((i, o) ∈ staForms b w ∧ v = s.a ∨ (i, o) ∈ stxForms b w ∧ v = s.x ∨ (i, o) ∈ styForms b w ∧ v = s.y ∨
      (i, o) ∈ saxForms b w ∧ v = s.a &&& s.x) →
    InRam (o.ea s) →
    ∃ t, exec i s = .next t ∧ t = { s with ram := t.ram, pc := s.pc + o.length } ∧
      t.read (o.ea s) = v ∧ MemoryKeptBut s t (o.ea s)

/-- For every state and every memory form of STA, STX, STY, SAX, INC, DEC, ASL, LSR, ROL, ROR, SLO, RLA, SRE, RRA, DCP
and ISB whose effective address is 0x8000 or above, exec answers the state with run Faulted and the record of
ReadOnlyViolation (address, the byte that was to be written, the opcode's address, the opcode), and nothing else
changed. That this outcome Fault F is a next state is log 6 (DEDUCED). (60_exceptions.md R302, 60_exceptions.md R306,
20_memory.md R56, 47_undocumented.md R260) -/
def Obligations.WritesToRomFaultPrecisely : Prop :=
  ∀ (s : State) (b : Byte) (w : Word) (i : Instr) (o : Operand), ¬ InRam (o.ea s) →
    let m := o.value s
    let c : Byte := if s.flag .c then 1 else 0
    ((i, o) ∈ staForms b w → FaultsReadOnly i o s.a s) ∧
    ((i, o) ∈ stxForms b w → FaultsReadOnly i o s.x s) ∧
    ((i, o) ∈ styForms b w → FaultsReadOnly i o s.y s) ∧
    ((i, o) ∈ saxForms b w → FaultsReadOnly i o (s.a &&& s.x) s) ∧
    ((i, o) ∈ incForms b w ++ isbForms b w → FaultsReadOnly i o (m + 1) s) ∧
    ((i, o) ∈ decForms b w ++ dcpForms b w → FaultsReadOnly i o (m - 1) s) ∧
    ((i, o) ∈ aslForms b w ++ sloForms b w → FaultsReadOnly i o (m <<< 1) s) ∧
    ((i, o) ∈ lsrForms b w ++ sreForms b w → FaultsReadOnly i o (m >>> 1) s) ∧
    ((i, o) ∈ rolForms b w ++ rlaForms b w → FaultsReadOnly i o ((m <<< 1) ||| c) s) ∧
    ((i, o) ∈ rorForms b w ++ rraForms b w → FaultsReadOnly i o ((m >>> 1) ||| (c <<< 7)) s)

/-- From every state, PHA writes A and PHP writes P | 0x30 at 0x0100 + SP, then SP is decremented modulo 256 and PC
advances by 1; every other register, every flag and every other byte of memory is unchanged. (R170, R171) -/
def Obligations.StackPushesWriteAtSp : Prop :=
  ∀ s : State,
    (∃ t, exec .pha s = .next t ∧ t = { s with sp := s.sp - 1, ram := t.ram, pc := s.pc + 1 } ∧
      t.read (0x0100 + zext16 s.sp) = s.a ∧ MemoryKeptBut s t (0x0100 + zext16 s.sp)) ∧
    (∃ t, exec .php s = .next t ∧ t = { s with sp := s.sp - 1, ram := t.ram, pc := s.pc + 1 } ∧
      t.read (0x0100 + zext16 s.sp) = s.getP ||| 0x30 ∧ MemoryKeptBut s t (0x0100 + zext16 s.sp))

/-- From every state, SP is incremented modulo 256 and the byte v at 0x0100 + SP is read; PLA sets A to v and Z and N
from it; PLP sets P to (v & 0xEF) | 0x20. PC advances by 1; every other register and flag and all of memory are
unchanged. (R172, R173) -/
def Obligations.StackPullsReadAboveSp : Prop :=
  ∀ s : State,
    let v := s.read (0x0100 + zext16 (s.sp + 1))
    (∃ t, exec .pla s = .next t ∧ t = { s with a := v, sp := s.sp + 1, p := t.p, pc := s.pc + 1 } ∧
      SetsZN v t ∧ FlagsKept s t [.z, .n] ∧ MemoryKept s t) ∧
    (∃ t, exec .plp s = .next t ∧
      t = { s with p := (v &&& 0xEF) ||| 0x20, sp := s.sp + 1, pc := s.pc + 1 } ∧ MemoryKept s t)

/-- For every state (whatever D holds) and every form of ADC, exec answers a next state in which A is the sum A + M +
C modulo 256, C is set when the sum exceeds 0xFF, V is ((M ^ r) & (r ^ A) & 0x80) != 0 with A the old accumulator, Z
and N are those of the result, PC has advanced by the length, and nothing else changed. V is set exactly when the
signed sum is outside -128 to 127. (R180, R195) -/
def Obligations.AdcAddsWithCarry : Prop :=
  ∀ (s : State) (b : Byte) (w : Word) (i : Instr) (o : Operand), (i, o) ∈ adcForms b w →
    let m := o.value s
    let sum := s.a.toNat + m.toNat + (s.flag .c).toNat
    ∃ t, exec i s = .next t ∧ t = { s with a := t.a, p := t.p, pc := s.pc + o.length } ∧
      t.a.toNat = sum % 256 ∧ t.flag .c = decide (sum > 0xFF) ∧
      t.flag .v = decide (((m ^^^ t.a) &&& (t.a ^^^ s.a) &&& 0x80) ≠ 0) ∧
      (t.flag .v = true ↔
        signed8 s.a + signed8 m + (s.flag .c).toNat < -128 ∨ 127 < signed8 s.a + signed8 m + (s.flag .c).toNat) ∧
      SetsZN t.a t ∧ FlagsKept s t [.c, .v, .z, .n] ∧ MemoryKept s t

/-- For every state and every form of SBC, and for USBC, exec answers a next state in which A is A - M - (1 - C)
modulo 256, C is set exactly when that difference is not negative, V is the overflow formula on M ^ 0xFF, set exactly
when the signed difference is outside -128 to 127, Z and N are those of the result, PC has advanced by the length, and
nothing else changed. (R181, R273) -/
def Obligations.SbcSubtractsWithBorrow : Prop :=
  ∀ (s : State) (b : Byte) (w : Word) (i : Instr) (o : Operand), (i, o) ∈ sbcForms b w ++ usbcForms b w →
    let m := o.value s
    let difference : Int := (s.a.toNat : Int) - m.toNat - (1 - (s.flag .c).toNat)
    let signed : Int := signed8 s.a - signed8 m - (1 - (s.flag .c).toNat)
    ∃ t, exec i s = .next t ∧ t = { s with a := t.a, p := t.p, pc := s.pc + o.length } ∧
      (t.a.toNat : Int) = difference % 256 ∧ t.flag .c = decide (difference ≥ 0) ∧
      t.flag .v = decide (((m ^^^ 0xFF ^^^ t.a) &&& (t.a ^^^ s.a) &&& 0x80) ≠ 0) ∧
      (t.flag .v = true ↔ signed < -128 ∨ 127 < signed) ∧
      SetsZN t.a t ∧ FlagsKept s t [.c, .v, .z, .n] ∧ MemoryKept s t

/-- For every state and every form of AND, ORA and EOR, exec answers a next state in which A is A & M, A | M or A ^ M,
Z and N are those of it, PC has advanced by the length, and every other register, flag (C and V among them) and byte
of memory is unchanged. (R182, R183, R184) -/
def Obligations.LogicCombinesAWithM : Prop :=
  ∀ (s : State) (b : Byte) (w : Word) (i : Instr) (o : Operand) (r : Byte),
    ((i, o) ∈ andForms b w ∧ r = s.a &&& o.value s ∨ (i, o) ∈ oraForms b w ∧ r = s.a ||| o.value s ∨
      (i, o) ∈ eorForms b w ∧ r = s.a ^^^ o.value s) →
    ∃ t, exec i s = .next t ∧ t = { s with a := r, p := t.p, pc := s.pc + o.length } ∧
      SetsZN r t ∧ FlagsKept s t [.z, .n] ∧ MemoryKept s t

/-- For every state and both forms of BIT, exec answers a next state in which Z says that A & M is 0, V is bit 6 of M
and N is bit 7 of M, PC has advanced by the length, and A, every other register and flag and all of memory are
unchanged. (R185) -/
def Obligations.BitTestsTheOperand : Prop :=
  ∀ (s : State) (b : Byte) (w : Word) (i : Instr) (o : Operand), (i, o) ∈ bitForms b w →
    ∃ t, exec i s = .next t ∧ t = { s with p := t.p, pc := s.pc + o.length } ∧
      t.flag .z = decide (s.a &&& o.value s = 0) ∧ t.flag .v = (o.value s).getLsbD 6 ∧
      t.flag .n = (o.value s).getLsbD 7 ∧ FlagsKept s t [.z, .v, .n] ∧ MemoryKept s t

/-- For every state and every form of CMP, CPX and CPY, with R the register: exec answers a next state in which C says
that R >= M as unsigned numbers, Z and N are those of R - M modulo 256, PC has advanced by the length, and every
register, every other flag (V among them) and all of memory are unchanged. (R148, R186, R187, R188) -/
def Obligations.ComparesSetCarryAndZN : Prop :=
  ∀ (s : State) (b : Byte) (w : Word) (i : Instr) (o : Operand) (r : Byte),
    ((i, o) ∈ cmpForms b w ∧ r = s.a ∨ (i, o) ∈ cpxForms b w ∧ r = s.x ∨ (i, o) ∈ cpyForms b w ∧ r = s.y) →
    ∃ t, exec i s = .next t ∧ t = { s with p := t.p, pc := s.pc + o.length } ∧
      t.flag .c = decide (r.toNat ≥ (o.value s).toNat) ∧ SetsZN (r - o.value s) t ∧
      FlagsKept s t [.c, .z, .n] ∧ MemoryKept s t

/-- From every state INX, INY, DEX and DEY, and every form of INC and DEC whose effective address is in RAM, add or
subtract 1 modulo 256 and set Z and N from the result; PC advances by the length; every other register, flag and byte
of memory is unchanged. (43_arithmetic_logic.md R189, 43_arithmetic_logic.md R190, 43_arithmetic_logic.md R191,
43_arithmetic_logic.md R192, 43_arithmetic_logic.md R193, 43_arithmetic_logic.md R194) -/
def Obligations.IncrementsAndDecrementsWrap : Prop :=
  (∀ (s : State) (b : Byte) (w : Word) (i : Instr) (o : Operand) (r : Byte),
    ((i, o) ∈ incForms b w ∧ r.toNat = ((o.value s).toNat + 1) % 256 ∨
      (i, o) ∈ decForms b w ∧ r.toNat = ((o.value s).toNat + 255) % 256) →
    InRam (o.ea s) →
    ∃ t, exec i s = .next t ∧ t = { s with p := t.p, ram := t.ram, pc := s.pc + o.length } ∧
      t.read (o.ea s) = r ∧ MemoryKeptBut s t (o.ea s) ∧ SetsZN r t ∧ FlagsKept s t [.z, .n]) ∧
  (∀ s : State,
    (∃ t, exec .inx s = .next t ∧ t = { s with x := t.x, p := t.p, pc := s.pc + 1 } ∧
      t.x.toNat = (s.x.toNat + 1) % 256 ∧ SetsZN t.x t ∧ FlagsKept s t [.z, .n] ∧ MemoryKept s t) ∧
    (∃ t, exec .iny s = .next t ∧ t = { s with y := t.y, p := t.p, pc := s.pc + 1 } ∧
      t.y.toNat = (s.y.toNat + 1) % 256 ∧ SetsZN t.y t ∧ FlagsKept s t [.z, .n] ∧ MemoryKept s t) ∧
    (∃ t, exec .dex s = .next t ∧ t = { s with x := t.x, p := t.p, pc := s.pc + 1 } ∧
      t.x.toNat = (s.x.toNat + 255) % 256 ∧ SetsZN t.x t ∧ FlagsKept s t [.z, .n] ∧ MemoryKept s t) ∧
    (∃ t, exec .dey s = .next t ∧ t = { s with y := t.y, p := t.p, pc := s.pc + 1 } ∧
      t.y.toNat = (s.y.toNat + 255) % 256 ∧ SetsZN t.y t ∧ FlagsKept s t [.z, .n] ∧ MemoryKept s t))

/-- For every state and every memory form of ASL, LSR, ROL and ROR whose effective address is in RAM, exec answers a
next state in which the byte there is M shifted or rotated by one bit (the old carry entering for ROL and ROR), C is
the bit shifted out, Z and N are those of the result, PC has advanced by the length, and every register, other flag
and other byte of memory is unchanged. (44_shift_rotate.md R210, 44_shift_rotate.md R211, 44_shift_rotate.md R212,
44_shift_rotate.md R213, 44_shift_rotate.md R214) -/
def Obligations.ShiftsMoveOneBitThroughCarry : Prop :=
  ∀ (s : State) (b : Byte) (w : Word) (i : Instr) (o : Operand) (r : Byte) (out : Bool),
    let m := o.value s
    let c := (s.flag .c).toNat
    ((i, o) ∈ aslForms b w ∧ r.toNat = 2 * m.toNat % 256 ∧ out = m.getLsbD 7 ∨
      (i, o) ∈ lsrForms b w ∧ r.toNat = m.toNat / 2 ∧ out = m.getLsbD 0 ∨
      (i, o) ∈ rolForms b w ∧ r.toNat = (2 * m.toNat + c) % 256 ∧ out = m.getLsbD 7 ∨
      (i, o) ∈ rorForms b w ∧ r.toNat = m.toNat / 2 + 128 * c ∧ out = m.getLsbD 0) →
    InRam (o.ea s) →
    ∃ t, exec i s = .next t ∧ t = { s with p := t.p, ram := t.ram, pc := s.pc + o.length } ∧
      t.read (o.ea s) = r ∧ MemoryKeptBut s t (o.ea s) ∧ t.flag .c = out ∧ SetsZN r t ∧
      FlagsKept s t [.c, .z, .n]

/-- From every state, the accumulator forms of ASL, LSR, ROL and ROR shift or rotate A by one bit (the old carry
entering for ROL and ROR), set C to the bit shifted out and Z and N from the result, advance PC by 1 and change
nothing else. (40_core_and_addressing.md R147, 44_shift_rotate.md R210, 44_shift_rotate.md R211, 44_shift_rotate.md
R212, 44_shift_rotate.md R213, 44_shift_rotate.md R214) -/
def Obligations.AccumulatorShiftsMoveOneBitThroughCarry : Prop :=
  ∀ (s : State) (i : Instr) (r : Byte) (out : Bool),
    let c := (s.flag .c).toNat
    (i = .aslAcc ∧ r.toNat = 2 * s.a.toNat % 256 ∧ out = s.a.getLsbD 7 ∨
      i = .lsrAcc ∧ r.toNat = s.a.toNat / 2 ∧ out = s.a.getLsbD 0 ∨
      i = .rolAcc ∧ r.toNat = (2 * s.a.toNat + c) % 256 ∧ out = s.a.getLsbD 7 ∨
      i = .rorAcc ∧ r.toNat = s.a.toNat / 2 + 128 * c ∧ out = s.a.getLsbD 0) →
    ∃ t, exec i s = .next t ∧ t = { s with a := r, p := t.p, pc := s.pc + 1 } ∧
      t.flag .c = out ∧ SetsZN r t ∧ FlagsKept s t [.c, .z, .n] ∧ MemoryKept s t

/-- From every state, JSR pushes the high and then the low byte of PC + 2, lowers SP by 2 and sets PC to its operand;
RTS pulls a low and then a high byte, raises SP by 2 and sets PC to that word plus 1. No flag, no other register and
no other byte of memory changes. (R222, R223) -/
def Obligations.JsrAndRtsUseTheStack : Prop :=
  ∀ (s : State) (target : Word),
    (∃ t, exec (.jsrAbs target) s = .next t ∧ t = { s with sp := s.sp - 2, ram := t.ram, pc := target } ∧
      t.read (stackAddr s.sp) = hi8 (s.pc + 2) ∧ t.read (stackAddr (s.sp - 1)) = lo8 (s.pc + 2) ∧
      MemoryKeptOutside s t [stackAddr s.sp, stackAddr (s.sp - 1)]) ∧
    exec .rts s = .next
      { s with
        sp := s.sp + 2
        pc := wordOf (s.read (stackAddr (s.sp + 2))) (s.read (stackAddr (s.sp + 1))) + 1 }

/-- From every state with PC = a, a JSR to any target and then, wherever PC stands, an RTS on the stack JSR left end
at PC = a + 3 with SP and every other register and flag as before the JSR. (R224) -/
def Obligations.RtsAfterJsrReturnsPastTheJsr : Prop :=
  ∀ (s : State) (target q : Word),
    ∃ t u, exec (.jsrAbs target) s = .next t ∧ exec .rts { t with pc := q } = .next u ∧
      u = { s with pc := s.pc + 3, ram := t.ram }

/-- From every state, BRK pushes the high and low byte of PC + 2 and then P | 0x30, lowers SP by 3, sets I and no
other flag, and loads PC from 0xFFFE; every other register and byte of memory is unchanged. (R226) -/
def Obligations.BrkPushesAndVectors : Prop :=
  ∀ s : State, ∃ t, exec .brk s = .next t ∧
    t = { s with sp := s.sp - 3, p := t.p, ram := t.ram, pc := s.read16 0xFFFE } ∧
    t.flag .i = true ∧ FlagsKept s t [.i] ∧
    t.read (stackAddr s.sp) = hi8 (s.pc + 2) ∧ t.read (stackAddr (s.sp - 1)) = lo8 (s.pc + 2) ∧
    t.read (stackAddr (s.sp - 2)) = s.getP ||| 0x30 ∧
    MemoryKeptOutside s t [stackAddr s.sp, stackAddr (s.sp - 1), stackAddr (s.sp - 2)]

/-- From every state, RTI sets P to (v & 0xEF) | 0x20 for the byte v above SP, sets PC to the next two bytes, low
first, raises SP by 3, and changes nothing else. (R227) -/
def Obligations.RtiRestoresStatusAndPc : Prop :=
  ∀ s : State, exec .rti s = .next
    { s with
      sp := s.sp + 3
      p := (s.read (stackAddr (s.sp + 1)) &&& 0xEF) ||| 0x20
      pc := wordOf (s.read (stackAddr (s.sp + 3))) (s.read (stackAddr (s.sp + 2))) }

/-- From every state, RTI on the stack that BRK at PC left, wherever PC stands, ends at PC + 2, and RTI on the stack
that interrupt entry left ends at the interrupted PC; both restore SP and every flag but B, which reads 0, the mask I
among them. (60_exceptions.md R319, 45_control_flow.md R226, 45_control_flow.md R227, 60_exceptions.md R318) -/
def Obligations.RtiReturnsFromBrkAndInterrupts : Prop :=
  ∀ (s : State) (q : Word),
    (∃ t u, exec .brk s = .next t ∧ exec .rti { t with pc := q } = .next u ∧
      u = { s with p := u.p, pc := s.pc + 2, ram := t.ram } ∧ FlagsKept s u [.b] ∧ u.flag .b = false) ∧
    (∃ u, exec .rti { s.interruptEntry with pc := q } = .next u ∧
      u = { s with p := u.p, pc := s.pc, ram := s.interruptEntry.ram, nmiPending := false } ∧
      FlagsKept s u [.b] ∧ u.flag .b = false)

/-- From every state, BPL, BMI, BVC, BVS, BCC, BCS, BNE and BEQ set PC to PC + 2 + sext_16(off) when N = 0, N = 1, V =
0, V = 1, C = 0, C = 1, Z = 0, Z = 1 and to PC + 2 otherwise, and change nothing else. (45_control_flow.md R228,
45_control_flow.md R229, 45_control_flow.md R230, 45_control_flow.md R231, 45_control_flow.md R232, 45_control_flow.md
R233, 45_control_flow.md R234, 45_control_flow.md R235, 45_control_flow.md R236) -/
def Obligations.BranchesTestOneFlag : Prop :=
  ∀ (s : State) (off : Byte) (i : Instr) (taken : Bool),
    (i = .bpl off ∧ taken = !s.flag .n ∨ i = .bmi off ∧ taken = s.flag .n ∨
      i = .bvc off ∧ taken = !s.flag .v ∨ i = .bvs off ∧ taken = s.flag .v ∨
      i = .bcc off ∧ taken = !s.flag .c ∨ i = .bcs off ∧ taken = s.flag .c ∨
      i = .bne off ∧ taken = !s.flag .z ∨ i = .beq off ∧ taken = s.flag .z) →
    exec i s = .next { s with pc := s.pc + 2 + (if taken then sext16 off else 0) }

/-- From every state, CLC, SEC, CLI, SEI, CLD, SED and CLV clear or set C, I, D or V, advance PC by 1, and change no
other flag, no register and no memory. (46_flags_nop.md R250, 46_flags_nop.md R251, 46_flags_nop.md R252,
46_flags_nop.md R253, 46_flags_nop.md R254, 46_flags_nop.md R255, 46_flags_nop.md R256) -/
def Obligations.FlagInstructionsWriteOneFlag : Prop :=
  ∀ (s : State) (i : Instr) (f : Flag) (on : Bool),
    (i = .clc ∧ f = .c ∧ on = false ∨ i = .sec ∧ f = .c ∧ on = true ∨ i = .cli ∧ f = .i ∧ on = false ∨
      i = .sei ∧ f = .i ∧ on = true ∨ i = .cld ∧ f = .d ∧ on = false ∨ i = .sed ∧ f = .d ∧ on = true ∨
      i = .clv ∧ f = .v ∧ on = false) →
    ∃ t, exec i s = .next t ∧ t = { s with p := t.p, pc := s.pc + 1 } ∧ t.flag f = on ∧ FlagsKept s t [f] ∧
      MemoryKept s t

/-- From every state, the documented NOP, the implied undocumented ones and every undocumented NOP form with an
operand answer the same state with PC advanced by the length, whatever the operand addresses. (R257, R275) -/
def Obligations.NopsChangeOnlyPc : Prop :=
  ∀ (s : State) (op b : Byte) (w : Word) (i : Instr) (o : Operand),
    exec .nop s = .next { s with pc := s.pc + 1 } ∧
    exec (.nopImplied op) s = .next { s with pc := s.pc + 1 } ∧
    ((i, o) ∈ nopForms op b w → exec i s = .next { s with pc := s.pc + o.length })

/-- For every state and every form of SLO, RLA, SRE and RRA whose effective address is in RAM: the byte r there is M
shifted as by ASL, ROL, LSR, ROR. SLO, RLA and SRE set A to A | r, A & r, A ^ r, C to the bit shifted out and Z and N
from A. RRA sets A to A + r + the bit shifted out modulo 256 with C, V, Z and N of that addition. PC advances by the
length; every other register, flag and byte is unchanged. (47_undocumented.md R261, 47_undocumented.md R262,
47_undocumented.md R263, 47_undocumented.md R264) -/
def Obligations.ShiftAndCombineOpcodes : Prop :=
  ∀ (s : State) (b : Byte) (w : Word) (i : Instr) (o : Operand), InRam (o.ea s) →
    let m := o.value s
    let c : Byte := if s.flag .c then 1 else 0
    (∀ (r a : Byte) (out : Bool),
      ((i, o) ∈ sloForms b w ∧ r = m <<< 1 ∧ a = s.a ||| r ∧ out = m.getLsbD 7 ∨
        (i, o) ∈ rlaForms b w ∧ r = (m <<< 1) ||| c ∧ a = s.a &&& r ∧ out = m.getLsbD 7 ∨
        (i, o) ∈ sreForms b w ∧ r = m >>> 1 ∧ a = s.a ^^^ r ∧ out = m.getLsbD 0) →
      ∃ t, exec i s = .next t ∧ t = { s with a := a, p := t.p, ram := t.ram, pc := s.pc + o.length } ∧
        t.read (o.ea s) = r ∧ MemoryKeptBut s t (o.ea s) ∧ t.flag .c = out ∧ SetsZN a t ∧
        FlagsKept s t [.c, .z, .n]) ∧
    ((i, o) ∈ rraForms b w →
      let r := (m >>> 1) ||| (c <<< 7)
      let sum := s.a.toNat + r.toNat + (m.getLsbD 0).toNat
      ∃ t, exec i s = .next t ∧ t = { s with a := t.a, p := t.p, ram := t.ram, pc := s.pc + o.length } ∧
        t.read (o.ea s) = r ∧ MemoryKeptBut s t (o.ea s) ∧ t.a.toNat = sum % 256 ∧
        t.flag .c = decide (sum > 0xFF) ∧
        t.flag .v = decide (((r ^^^ t.a) &&& (t.a ^^^ s.a) &&& 0x80) ≠ 0) ∧ SetsZN t.a t ∧
        FlagsKept s t [.c, .v, .z, .n])

/-- For every state and every form of DCP and ISB whose effective address is in RAM: DCP writes M - 1 and compares A
with it (C, Z, N; A and V unchanged); ISB writes M + 1 and sets A to A - (M + 1) - (1 - C) modulo 256 with C, V, Z and
N of that subtraction. PC advances by the length; every other register, flag and byte is unchanged.
(47_undocumented.md R267, 47_undocumented.md R268) -/
def Obligations.CountAndCombineOpcodes : Prop :=
  ∀ (s : State) (b : Byte) (w : Word) (i : Instr) (o : Operand), InRam (o.ea s) →
    let m := o.value s
    ((i, o) ∈ dcpForms b w →
      ∃ t, exec i s = .next t ∧ t = { s with p := t.p, ram := t.ram, pc := s.pc + o.length } ∧
        t.read (o.ea s) = m - 1 ∧ MemoryKeptBut s t (o.ea s) ∧
        t.flag .c = decide (s.a.toNat ≥ (m - 1).toNat) ∧ SetsZN (s.a - (m - 1)) t ∧ FlagsKept s t [.c, .z, .n]) ∧
    ((i, o) ∈ isbForms b w →
      let difference : Int := (s.a.toNat : Int) - (m + 1).toNat - (1 - (s.flag .c).toNat)
      ∃ t, exec i s = .next t ∧ t = { s with a := t.a, p := t.p, ram := t.ram, pc := s.pc + o.length } ∧
        t.read (o.ea s) = m + 1 ∧ MemoryKeptBut s t (o.ea s) ∧
        (t.a.toNat : Int) = difference % 256 ∧ t.flag .c = decide (difference ≥ 0) ∧
        t.flag .v = decide ((((m + 1) ^^^ 0xFF ^^^ t.a) &&& (t.a ^^^ s.a) &&& 0x80) ≠ 0) ∧ SetsZN t.a t ∧
        FlagsKept s t [.c, .v, .z, .n])

/-- For every state: every form of LAX sets A and X to M, and LAS sets A, X and SP to M & SP; Z and N are those of the
value, PC advances by the length, and every other register, flag and byte of memory is unchanged. (R266, R274) -/
def Obligations.CombinedLoads : Prop :=
  ∀ (s : State) (b : Byte) (w : Word) (i : Instr) (o : Operand),
    ((i, o) ∈ laxForms b w → ∃ t, exec i s = .next t ∧
      t = { s with a := o.value s, x := o.value s, p := t.p, pc := s.pc + o.length } ∧
      SetsZN (o.value s) t ∧ FlagsKept s t [.z, .n] ∧ MemoryKept s t) ∧
    ((i, o) ∈ lasForms b w →
      let v := o.value s &&& s.sp
      ∃ t, exec i s = .next t ∧ t = { s with a := v, x := v, sp := v, p := t.p, pc := s.pc + o.length } ∧
        SetsZN v t ∧ FlagsKept s t [.z, .n] ∧ MemoryKept s t)

/-- For every state and immediate m (and both ANC opcodes): ANC sets A to A & m, C to its bit 7; ALR sets A to (A & m)
>> 1, C to bit 0 of A & m; ARR sets A to ((A & m) >> 1) with the old carry in bit 7, C to bit 6 and V to bit 6 XOR bit
5 of the result; SBX sets X to (A & X) - m modulo 256, C to (A & X) >= m. Z and N are those of the register written;
PC advances by 2; nothing else changes. (R269, R270, R271, R272) -/
def Obligations.ImmediateCombinations : Prop :=
  ∀ (s : State) (op m : Byte),
    let c : Byte := if s.flag .c then 1 else 0
    (∃ t, exec (.ancImm op m) s = .next t ∧ t = { s with a := s.a &&& m, p := t.p, pc := s.pc + 2 } ∧
      SetsZN t.a t ∧ t.flag .c = t.a.getLsbD 7 ∧ FlagsKept s t [.c, .z, .n] ∧ MemoryKept s t) ∧
    (∃ t, exec (.alrImm m) s = .next t ∧ t = { s with a := (s.a &&& m) >>> 1, p := t.p, pc := s.pc + 2 } ∧
      SetsZN t.a t ∧ t.flag .c = (s.a &&& m).getLsbD 0 ∧ FlagsKept s t [.c, .z, .n] ∧ MemoryKept s t) ∧
    (∃ t, exec (.arrImm m) s = .next t ∧
      t = { s with a := ((s.a &&& m) >>> 1) ||| (c <<< 7), p := t.p, pc := s.pc + 2 } ∧
      SetsZN t.a t ∧ t.flag .c = t.a.getLsbD 6 ∧ t.flag .v = (t.a.getLsbD 6 ^^ t.a.getLsbD 5) ∧
      FlagsKept s t [.c, .v, .z, .n] ∧ MemoryKept s t) ∧
    (∃ t, exec (.sbxImm m) s = .next t ∧ t = { s with x := (s.a &&& s.x) - m, p := t.p, pc := s.pc + 2 } ∧
      SetsZN t.x t ∧ t.flag .c = decide ((s.a &&& s.x).toNat ≥ m.toNat) ∧ FlagsKept s t [.c, .z, .n] ∧
      MemoryKept s t)

/-- From every state and for each JAM opcode, exec answers the state with run Jammed, the record of kind Jam (code 4)
with the opcode's address and the opcode, PC at the opcode's address + 1, and nothing else changed; from there no step
is taken. That the outcome Stuck is a next state, and that the step after it answers the named Fault.jammed with the
record, is log 6 (DEDUCED). (47_undocumented.md R276, 60_exceptions.md R309, 40_core_and_addressing.md R127,
70_reset_and_hazards.md R356) -/
def Obligations.JamLocksTheCore : Prop :=
  FaultKind.jam.code = 4 ∧
  ∀ (s : State) (op : Byte), op ∈ jamOpcodes →
    ∃ t, exec (.jam op) s = .next t ∧
      t = { s with run := .jammed, fault := some { kind := .jam, pc := s.pc, opcode := op }, pc := s.pc + 1 } ∧
      step t = .fault (.jammed t.fault)

/-- From every state and for every operand, each of the seven unstable opcodes answers the state with run Faulted and
the record UnmodelledOpcode (code 2) with PC and the opcode; PC, every register, every flag and all of memory are
unchanged. That this outcome Fault F is a next state is log 6 (DEDUCED). (40_core_and_addressing.md R127,
47_undocumented.md R277, 47_undocumented.md R278, 47_undocumented.md R279, 47_undocumented.md R280, 47_undocumented.md
R281, 47_undocumented.md R282, 47_undocumented.md R283, 60_exceptions.md R303, 60_exceptions.md R306) -/
def Obligations.UnstableOpcodesRaiseUnmodelledOpcode : Prop :=
  FaultKind.unmodelledOpcode.code = 2 ∧
  ∀ (s : State) (b : Byte) (w : Word) (i : Instr) (op : Byte),
    (i = .aneImm b ∧ op = 0x8B ∨ i = .lxaImm b ∧ op = 0xAB ∨ i = .shaIndY b ∧ op = 0x93 ∨
      i = .shaAbsY w ∧ op = 0x9F ∨ i = .shyAbsX w ∧ op = 0x9C ∨ i = .shxAbsY w ∧ op = 0x9E ∨
      i = .tasAbsY w ∧ op = 0x9B) →
    opcodeOf i = op ∧
    exec i s = .next
      { s with run := .faulted, fault := some { kind := .unmodelledOpcode, pc := s.pc, opcode := op } }

/-- For every well-formed instruction whose descriptor does not own PC, and every state: exec answers a next state,
and unless that is the state with run Faulted and a record set and nothing else changed, its PC is the opcode's
address plus the descriptor's length modulo 65536. That a fault too answers a next state is log 6 (DEDUCED).
(40_core_and_addressing.md R123, 40_core_and_addressing.md R127, 60_exceptions.md R306) -/
def Obligations.NonOwningInstructionsAdvancePcByTheirLength : Prop :=
  ∀ (i : Instr) (s : State) (d : Descriptor), i.wellFormed = true → descriptorOf i = some d → d.pcOwning = false →
    ∃ t, exec i s = .next t ∧
      ((∀ r, t ≠ { s with run := .faulted, fault := some r }) → t.pc = s.pc + BitVec.ofNat 16 d.length)

/-- For every well-formed instruction and state exec answers a next state, jams, faults and writes to ROM among them:
that these outcomes of R127 are next states is log 6 (DEDUCED). For a jamming opcode its run is Jammed; for a faulting
one Faulted; for an executing one run and record are unchanged, unless its mnemonic is one of the sixteen that write
at an effective address and the state is the one before with run Faulted and one ReadOnlyViolation record for an
address at or above 0x8000. (60_exceptions.md R302, 60_exceptions.md R303, 60_exceptions.md R305, 60_exceptions.md
R307, 60_exceptions.md R309) -/
def Obligations.OnlyRomWritesJamsAndUnstableOpcodesStop : Prop :=
  ∀ (i : Instr) (s : State), i.wellFormed = true →
    ∃ (d : Descriptor) (t : State), descriptorOf i = some d ∧ exec i s = .next t ∧
      (d.status = .jams → t.run = .jammed) ∧ (d.status = .faults → t.run = .faulted) ∧
      (d.status = .executes →
        (t.run = s.run ∧ t.fault = s.fault) ∨
        (d.mnemonic ∈ ["STA", "STX", "STY", "SAX", "ASL", "LSR", "ROL", "ROR", "INC", "DEC", "SLO", "RLA", "SRE",
            "RRA", "DCP", "ISB"] ∧ d.mode ≠ .accumulator ∧
          ∃ addr v, ¬ InRam addr ∧
            t = { s with
                  run := .faulted
                  fault := some { kind := .readOnlyViolation addr v, pc := s.pc, opcode := opcodeOf i } }))
end

