-- ==== Sys2Proof/Laws/State.lean ====
section
/-! SUPPORT. What each setter of the register file does to each field of the state: one lemma per field per setter,
so that no proof unfolds a record update. -/

namespace Sys2Proof.Machine

@[simp] theorem State.setA_a (s : State) (v : Byte) : (s.setA v).a = v := rfl
@[simp] theorem State.setA_x (s : State) (v : Byte) : (s.setA v).x = s.x := rfl
@[simp] theorem State.setA_y (s : State) (v : Byte) : (s.setA v).y = s.y := rfl
@[simp] theorem State.setA_sp (s : State) (v : Byte) : (s.setA v).sp = s.sp := rfl
@[simp] theorem State.setA_pc (s : State) (v : Byte) : (s.setA v).pc = s.pc := rfl
@[simp] theorem State.setA_p (s : State) (v : Byte) : (s.setA v).p = s.p := rfl
@[simp] theorem State.setA_ram (s : State) (v : Byte) : (s.setA v).ram = s.ram := rfl
@[simp] theorem State.setA_run (s : State) (v : Byte) : (s.setA v).run = s.run := rfl
@[simp] theorem State.setA_stopReq (s : State) (v : Byte) : (s.setA v).stopReq = s.stopReq := rfl
@[simp] theorem State.setA_fault (s : State) (v : Byte) : (s.setA v).fault = s.fault := rfl
@[simp] theorem State.setA_irq (s : State) (v : Byte) : (s.setA v).irq = s.irq := rfl
@[simp] theorem State.setA_nmiPending (s : State) (v : Byte) : (s.setA v).nmiPending = s.nmiPending := rfl
@[simp] theorem State.setA_cfg (s : State) (v : Byte) : (s.setA v).cfg = s.cfg := rfl
@[simp] theorem State.setA_ctrlDraws (s : State) (v : Byte) : (s.setA v).ctrlDraws = s.ctrlDraws := rfl

@[simp] theorem State.setX_a (s : State) (v : Byte) : (s.setX v).a = s.a := rfl
@[simp] theorem State.setX_x (s : State) (v : Byte) : (s.setX v).x = v := rfl
@[simp] theorem State.setX_y (s : State) (v : Byte) : (s.setX v).y = s.y := rfl
@[simp] theorem State.setX_sp (s : State) (v : Byte) : (s.setX v).sp = s.sp := rfl
@[simp] theorem State.setX_pc (s : State) (v : Byte) : (s.setX v).pc = s.pc := rfl
@[simp] theorem State.setX_p (s : State) (v : Byte) : (s.setX v).p = s.p := rfl
@[simp] theorem State.setX_ram (s : State) (v : Byte) : (s.setX v).ram = s.ram := rfl
@[simp] theorem State.setX_run (s : State) (v : Byte) : (s.setX v).run = s.run := rfl
@[simp] theorem State.setX_stopReq (s : State) (v : Byte) : (s.setX v).stopReq = s.stopReq := rfl
@[simp] theorem State.setX_fault (s : State) (v : Byte) : (s.setX v).fault = s.fault := rfl
@[simp] theorem State.setX_irq (s : State) (v : Byte) : (s.setX v).irq = s.irq := rfl
@[simp] theorem State.setX_nmiPending (s : State) (v : Byte) : (s.setX v).nmiPending = s.nmiPending := rfl
@[simp] theorem State.setX_cfg (s : State) (v : Byte) : (s.setX v).cfg = s.cfg := rfl
@[simp] theorem State.setX_ctrlDraws (s : State) (v : Byte) : (s.setX v).ctrlDraws = s.ctrlDraws := rfl

@[simp] theorem State.setY_a (s : State) (v : Byte) : (s.setY v).a = s.a := rfl
@[simp] theorem State.setY_x (s : State) (v : Byte) : (s.setY v).x = s.x := rfl
@[simp] theorem State.setY_y (s : State) (v : Byte) : (s.setY v).y = v := rfl
@[simp] theorem State.setY_sp (s : State) (v : Byte) : (s.setY v).sp = s.sp := rfl
@[simp] theorem State.setY_pc (s : State) (v : Byte) : (s.setY v).pc = s.pc := rfl
@[simp] theorem State.setY_p (s : State) (v : Byte) : (s.setY v).p = s.p := rfl
@[simp] theorem State.setY_ram (s : State) (v : Byte) : (s.setY v).ram = s.ram := rfl
@[simp] theorem State.setY_run (s : State) (v : Byte) : (s.setY v).run = s.run := rfl
@[simp] theorem State.setY_stopReq (s : State) (v : Byte) : (s.setY v).stopReq = s.stopReq := rfl
@[simp] theorem State.setY_fault (s : State) (v : Byte) : (s.setY v).fault = s.fault := rfl
@[simp] theorem State.setY_irq (s : State) (v : Byte) : (s.setY v).irq = s.irq := rfl
@[simp] theorem State.setY_nmiPending (s : State) (v : Byte) : (s.setY v).nmiPending = s.nmiPending := rfl
@[simp] theorem State.setY_cfg (s : State) (v : Byte) : (s.setY v).cfg = s.cfg := rfl
@[simp] theorem State.setY_ctrlDraws (s : State) (v : Byte) : (s.setY v).ctrlDraws = s.ctrlDraws := rfl

@[simp] theorem State.setSP_a (s : State) (v : Byte) : (s.setSP v).a = s.a := rfl
@[simp] theorem State.setSP_x (s : State) (v : Byte) : (s.setSP v).x = s.x := rfl
@[simp] theorem State.setSP_y (s : State) (v : Byte) : (s.setSP v).y = s.y := rfl
@[simp] theorem State.setSP_sp (s : State) (v : Byte) : (s.setSP v).sp = v := rfl
@[simp] theorem State.setSP_pc (s : State) (v : Byte) : (s.setSP v).pc = s.pc := rfl
@[simp] theorem State.setSP_p (s : State) (v : Byte) : (s.setSP v).p = s.p := rfl
@[simp] theorem State.setSP_ram (s : State) (v : Byte) : (s.setSP v).ram = s.ram := rfl
@[simp] theorem State.setSP_run (s : State) (v : Byte) : (s.setSP v).run = s.run := rfl
@[simp] theorem State.setSP_stopReq (s : State) (v : Byte) : (s.setSP v).stopReq = s.stopReq := rfl
@[simp] theorem State.setSP_fault (s : State) (v : Byte) : (s.setSP v).fault = s.fault := rfl
@[simp] theorem State.setSP_irq (s : State) (v : Byte) : (s.setSP v).irq = s.irq := rfl
@[simp] theorem State.setSP_nmiPending (s : State) (v : Byte) : (s.setSP v).nmiPending = s.nmiPending := rfl
@[simp] theorem State.setSP_cfg (s : State) (v : Byte) : (s.setSP v).cfg = s.cfg := rfl
@[simp] theorem State.setSP_ctrlDraws (s : State) (v : Byte) : (s.setSP v).ctrlDraws = s.ctrlDraws := rfl

@[simp] theorem State.setPC_a (s : State) (v : Word) : (s.setPC v).a = s.a := rfl
@[simp] theorem State.setPC_x (s : State) (v : Word) : (s.setPC v).x = s.x := rfl
@[simp] theorem State.setPC_y (s : State) (v : Word) : (s.setPC v).y = s.y := rfl
@[simp] theorem State.setPC_sp (s : State) (v : Word) : (s.setPC v).sp = s.sp := rfl
@[simp] theorem State.setPC_pc (s : State) (v : Word) : (s.setPC v).pc = v := rfl
@[simp] theorem State.setPC_p (s : State) (v : Word) : (s.setPC v).p = s.p := rfl
@[simp] theorem State.setPC_ram (s : State) (v : Word) : (s.setPC v).ram = s.ram := rfl
@[simp] theorem State.setPC_run (s : State) (v : Word) : (s.setPC v).run = s.run := rfl
@[simp] theorem State.setPC_stopReq (s : State) (v : Word) : (s.setPC v).stopReq = s.stopReq := rfl
@[simp] theorem State.setPC_fault (s : State) (v : Word) : (s.setPC v).fault = s.fault := rfl
@[simp] theorem State.setPC_irq (s : State) (v : Word) : (s.setPC v).irq = s.irq := rfl
@[simp] theorem State.setPC_nmiPending (s : State) (v : Word) : (s.setPC v).nmiPending = s.nmiPending := rfl
@[simp] theorem State.setPC_cfg (s : State) (v : Word) : (s.setPC v).cfg = s.cfg := rfl
@[simp] theorem State.setPC_ctrlDraws (s : State) (v : Word) : (s.setPC v).ctrlDraws = s.ctrlDraws := rfl

@[simp] theorem State.setP_a (s : State) (v : Byte) : (s.setP v).a = s.a := rfl
@[simp] theorem State.setP_x (s : State) (v : Byte) : (s.setP v).x = s.x := rfl
@[simp] theorem State.setP_y (s : State) (v : Byte) : (s.setP v).y = s.y := rfl
@[simp] theorem State.setP_sp (s : State) (v : Byte) : (s.setP v).sp = s.sp := rfl
@[simp] theorem State.setP_pc (s : State) (v : Byte) : (s.setP v).pc = s.pc := rfl
@[simp] theorem State.setP_p (s : State) (v : Byte) : (s.setP v).p = v ||| 0x20 := rfl
@[simp] theorem State.setP_ram (s : State) (v : Byte) : (s.setP v).ram = s.ram := rfl
@[simp] theorem State.setP_run (s : State) (v : Byte) : (s.setP v).run = s.run := rfl
@[simp] theorem State.setP_stopReq (s : State) (v : Byte) : (s.setP v).stopReq = s.stopReq := rfl
@[simp] theorem State.setP_fault (s : State) (v : Byte) : (s.setP v).fault = s.fault := rfl
@[simp] theorem State.setP_irq (s : State) (v : Byte) : (s.setP v).irq = s.irq := rfl
@[simp] theorem State.setP_nmiPending (s : State) (v : Byte) : (s.setP v).nmiPending = s.nmiPending := rfl
@[simp] theorem State.setP_cfg (s : State) (v : Byte) : (s.setP v).cfg = s.cfg := rfl
@[simp] theorem State.setP_ctrlDraws (s : State) (v : Byte) : (s.setP v).ctrlDraws = s.ctrlDraws := rfl

@[simp] theorem State.setRam_a (s : State) (v : Memory) : (s.setRam v).a = s.a := rfl
@[simp] theorem State.setRam_x (s : State) (v : Memory) : (s.setRam v).x = s.x := rfl
@[simp] theorem State.setRam_y (s : State) (v : Memory) : (s.setRam v).y = s.y := rfl
@[simp] theorem State.setRam_sp (s : State) (v : Memory) : (s.setRam v).sp = s.sp := rfl
@[simp] theorem State.setRam_pc (s : State) (v : Memory) : (s.setRam v).pc = s.pc := rfl
@[simp] theorem State.setRam_p (s : State) (v : Memory) : (s.setRam v).p = s.p := rfl
@[simp] theorem State.setRam_ram (s : State) (v : Memory) : (s.setRam v).ram = v := rfl
@[simp] theorem State.setRam_run (s : State) (v : Memory) : (s.setRam v).run = s.run := rfl
@[simp] theorem State.setRam_stopReq (s : State) (v : Memory) : (s.setRam v).stopReq = s.stopReq := rfl
@[simp] theorem State.setRam_fault (s : State) (v : Memory) : (s.setRam v).fault = s.fault := rfl
@[simp] theorem State.setRam_irq (s : State) (v : Memory) : (s.setRam v).irq = s.irq := rfl
@[simp] theorem State.setRam_nmiPending (s : State) (v : Memory) : (s.setRam v).nmiPending = s.nmiPending := rfl
@[simp] theorem State.setRam_cfg (s : State) (v : Memory) : (s.setRam v).cfg = s.cfg := rfl
@[simp] theorem State.setRam_ctrlDraws (s : State) (v : Memory) : (s.setRam v).ctrlDraws = s.ctrlDraws := rfl

@[simp] theorem State.setRun_a (s : State) (v : RunState) : (s.setRun v).a = s.a := rfl
@[simp] theorem State.setRun_x (s : State) (v : RunState) : (s.setRun v).x = s.x := rfl
@[simp] theorem State.setRun_y (s : State) (v : RunState) : (s.setRun v).y = s.y := rfl
@[simp] theorem State.setRun_sp (s : State) (v : RunState) : (s.setRun v).sp = s.sp := rfl
@[simp] theorem State.setRun_pc (s : State) (v : RunState) : (s.setRun v).pc = s.pc := rfl
@[simp] theorem State.setRun_p (s : State) (v : RunState) : (s.setRun v).p = s.p := rfl
@[simp] theorem State.setRun_ram (s : State) (v : RunState) : (s.setRun v).ram = s.ram := rfl
@[simp] theorem State.setRun_run (s : State) (v : RunState) : (s.setRun v).run = v := rfl
@[simp] theorem State.setRun_stopReq (s : State) (v : RunState) : (s.setRun v).stopReq = s.stopReq := rfl
@[simp] theorem State.setRun_fault (s : State) (v : RunState) : (s.setRun v).fault = s.fault := rfl
@[simp] theorem State.setRun_irq (s : State) (v : RunState) : (s.setRun v).irq = s.irq := rfl
@[simp] theorem State.setRun_nmiPending (s : State) (v : RunState) : (s.setRun v).nmiPending = s.nmiPending := rfl
@[simp] theorem State.setRun_cfg (s : State) (v : RunState) : (s.setRun v).cfg = s.cfg := rfl
@[simp] theorem State.setRun_ctrlDraws (s : State) (v : RunState) : (s.setRun v).ctrlDraws = s.ctrlDraws := rfl

@[simp] theorem State.setStopReq_a (s : State) (v : Bool) : (s.setStopReq v).a = s.a := rfl
@[simp] theorem State.setStopReq_x (s : State) (v : Bool) : (s.setStopReq v).x = s.x := rfl
@[simp] theorem State.setStopReq_y (s : State) (v : Bool) : (s.setStopReq v).y = s.y := rfl
@[simp] theorem State.setStopReq_sp (s : State) (v : Bool) : (s.setStopReq v).sp = s.sp := rfl
@[simp] theorem State.setStopReq_pc (s : State) (v : Bool) : (s.setStopReq v).pc = s.pc := rfl
@[simp] theorem State.setStopReq_p (s : State) (v : Bool) : (s.setStopReq v).p = s.p := rfl
@[simp] theorem State.setStopReq_ram (s : State) (v : Bool) : (s.setStopReq v).ram = s.ram := rfl
@[simp] theorem State.setStopReq_run (s : State) (v : Bool) : (s.setStopReq v).run = s.run := rfl
@[simp] theorem State.setStopReq_stopReq (s : State) (v : Bool) : (s.setStopReq v).stopReq = v := rfl
@[simp] theorem State.setStopReq_fault (s : State) (v : Bool) : (s.setStopReq v).fault = s.fault := rfl
@[simp] theorem State.setStopReq_irq (s : State) (v : Bool) : (s.setStopReq v).irq = s.irq := rfl
@[simp] theorem State.setStopReq_nmiPending (s : State) (v : Bool) : (s.setStopReq v).nmiPending = s.nmiPending := rfl
@[simp] theorem State.setStopReq_cfg (s : State) (v : Bool) : (s.setStopReq v).cfg = s.cfg := rfl
@[simp] theorem State.setStopReq_ctrlDraws (s : State) (v : Bool) : (s.setStopReq v).ctrlDraws = s.ctrlDraws := rfl

@[simp] theorem State.setFault_a (s : State) (v : Option FaultRecord) : (s.setFault v).a = s.a := rfl
@[simp] theorem State.setFault_x (s : State) (v : Option FaultRecord) : (s.setFault v).x = s.x := rfl
@[simp] theorem State.setFault_y (s : State) (v : Option FaultRecord) : (s.setFault v).y = s.y := rfl
@[simp] theorem State.setFault_sp (s : State) (v : Option FaultRecord) : (s.setFault v).sp = s.sp := rfl
@[simp] theorem State.setFault_pc (s : State) (v : Option FaultRecord) : (s.setFault v).pc = s.pc := rfl
@[simp] theorem State.setFault_p (s : State) (v : Option FaultRecord) : (s.setFault v).p = s.p := rfl
@[simp] theorem State.setFault_ram (s : State) (v : Option FaultRecord) : (s.setFault v).ram = s.ram := rfl
@[simp] theorem State.setFault_run (s : State) (v : Option FaultRecord) : (s.setFault v).run = s.run := rfl
@[simp] theorem State.setFault_stopReq (s : State) (v : Option FaultRecord) : (s.setFault v).stopReq = s.stopReq := rfl
@[simp] theorem State.setFault_fault (s : State) (v : Option FaultRecord) : (s.setFault v).fault = v := rfl
@[simp] theorem State.setFault_irq (s : State) (v : Option FaultRecord) : (s.setFault v).irq = s.irq := rfl
@[simp] theorem State.setFault_nmiPending (s : State) (v : Option FaultRecord) : (s.setFault v).nmiPending = s.nmiPending := rfl
@[simp] theorem State.setFault_cfg (s : State) (v : Option FaultRecord) : (s.setFault v).cfg = s.cfg := rfl
@[simp] theorem State.setFault_ctrlDraws (s : State) (v : Option FaultRecord) : (s.setFault v).ctrlDraws = s.ctrlDraws := rfl

@[simp] theorem State.setIrq_a (s : State) (v : Bool) : (s.setIrq v).a = s.a := rfl
@[simp] theorem State.setIrq_x (s : State) (v : Bool) : (s.setIrq v).x = s.x := rfl
@[simp] theorem State.setIrq_y (s : State) (v : Bool) : (s.setIrq v).y = s.y := rfl
@[simp] theorem State.setIrq_sp (s : State) (v : Bool) : (s.setIrq v).sp = s.sp := rfl
@[simp] theorem State.setIrq_pc (s : State) (v : Bool) : (s.setIrq v).pc = s.pc := rfl
@[simp] theorem State.setIrq_p (s : State) (v : Bool) : (s.setIrq v).p = s.p := rfl
@[simp] theorem State.setIrq_ram (s : State) (v : Bool) : (s.setIrq v).ram = s.ram := rfl
@[simp] theorem State.setIrq_run (s : State) (v : Bool) : (s.setIrq v).run = s.run := rfl
@[simp] theorem State.setIrq_stopReq (s : State) (v : Bool) : (s.setIrq v).stopReq = s.stopReq := rfl
@[simp] theorem State.setIrq_fault (s : State) (v : Bool) : (s.setIrq v).fault = s.fault := rfl
@[simp] theorem State.setIrq_irq (s : State) (v : Bool) : (s.setIrq v).irq = v := rfl
@[simp] theorem State.setIrq_nmiPending (s : State) (v : Bool) : (s.setIrq v).nmiPending = s.nmiPending := rfl
@[simp] theorem State.setIrq_cfg (s : State) (v : Bool) : (s.setIrq v).cfg = s.cfg := rfl
@[simp] theorem State.setIrq_ctrlDraws (s : State) (v : Bool) : (s.setIrq v).ctrlDraws = s.ctrlDraws := rfl

@[simp] theorem State.setNmiPending_a (s : State) (v : Bool) : (s.setNmiPending v).a = s.a := rfl
@[simp] theorem State.setNmiPending_x (s : State) (v : Bool) : (s.setNmiPending v).x = s.x := rfl
@[simp] theorem State.setNmiPending_y (s : State) (v : Bool) : (s.setNmiPending v).y = s.y := rfl
@[simp] theorem State.setNmiPending_sp (s : State) (v : Bool) : (s.setNmiPending v).sp = s.sp := rfl
@[simp] theorem State.setNmiPending_pc (s : State) (v : Bool) : (s.setNmiPending v).pc = s.pc := rfl
@[simp] theorem State.setNmiPending_p (s : State) (v : Bool) : (s.setNmiPending v).p = s.p := rfl
@[simp] theorem State.setNmiPending_ram (s : State) (v : Bool) : (s.setNmiPending v).ram = s.ram := rfl
@[simp] theorem State.setNmiPending_run (s : State) (v : Bool) : (s.setNmiPending v).run = s.run := rfl
@[simp] theorem State.setNmiPending_stopReq (s : State) (v : Bool) : (s.setNmiPending v).stopReq = s.stopReq := rfl
@[simp] theorem State.setNmiPending_fault (s : State) (v : Bool) : (s.setNmiPending v).fault = s.fault := rfl
@[simp] theorem State.setNmiPending_irq (s : State) (v : Bool) : (s.setNmiPending v).irq = s.irq := rfl
@[simp] theorem State.setNmiPending_nmiPending (s : State) (v : Bool) : (s.setNmiPending v).nmiPending = v := rfl
@[simp] theorem State.setNmiPending_cfg (s : State) (v : Bool) : (s.setNmiPending v).cfg = s.cfg := rfl
@[simp] theorem State.setNmiPending_ctrlDraws (s : State) (v : Bool) : (s.setNmiPending v).ctrlDraws = s.ctrlDraws := rfl

@[simp] theorem State.setCfg_a (s : State) (v : Config) : (s.setCfg v).a = s.a := rfl
@[simp] theorem State.setCfg_x (s : State) (v : Config) : (s.setCfg v).x = s.x := rfl
@[simp] theorem State.setCfg_y (s : State) (v : Config) : (s.setCfg v).y = s.y := rfl
@[simp] theorem State.setCfg_sp (s : State) (v : Config) : (s.setCfg v).sp = s.sp := rfl
@[simp] theorem State.setCfg_pc (s : State) (v : Config) : (s.setCfg v).pc = s.pc := rfl
@[simp] theorem State.setCfg_p (s : State) (v : Config) : (s.setCfg v).p = s.p := rfl
@[simp] theorem State.setCfg_ram (s : State) (v : Config) : (s.setCfg v).ram = s.ram := rfl
@[simp] theorem State.setCfg_run (s : State) (v : Config) : (s.setCfg v).run = s.run := rfl
@[simp] theorem State.setCfg_stopReq (s : State) (v : Config) : (s.setCfg v).stopReq = s.stopReq := rfl
@[simp] theorem State.setCfg_fault (s : State) (v : Config) : (s.setCfg v).fault = s.fault := rfl
@[simp] theorem State.setCfg_irq (s : State) (v : Config) : (s.setCfg v).irq = s.irq := rfl
@[simp] theorem State.setCfg_nmiPending (s : State) (v : Config) : (s.setCfg v).nmiPending = s.nmiPending := rfl
@[simp] theorem State.setCfg_cfg (s : State) (v : Config) : (s.setCfg v).cfg = v := rfl
@[simp] theorem State.setCfg_ctrlDraws (s : State) (v : Config) : (s.setCfg v).ctrlDraws = s.ctrlDraws := rfl

@[simp] theorem State.setCtrlDraws_a (s : State) (v : Nat) : (s.setCtrlDraws v).a = s.a := rfl
@[simp] theorem State.setCtrlDraws_x (s : State) (v : Nat) : (s.setCtrlDraws v).x = s.x := rfl
@[simp] theorem State.setCtrlDraws_y (s : State) (v : Nat) : (s.setCtrlDraws v).y = s.y := rfl
@[simp] theorem State.setCtrlDraws_sp (s : State) (v : Nat) : (s.setCtrlDraws v).sp = s.sp := rfl
@[simp] theorem State.setCtrlDraws_pc (s : State) (v : Nat) : (s.setCtrlDraws v).pc = s.pc := rfl
@[simp] theorem State.setCtrlDraws_p (s : State) (v : Nat) : (s.setCtrlDraws v).p = s.p := rfl
@[simp] theorem State.setCtrlDraws_ram (s : State) (v : Nat) : (s.setCtrlDraws v).ram = s.ram := rfl
@[simp] theorem State.setCtrlDraws_run (s : State) (v : Nat) : (s.setCtrlDraws v).run = s.run := rfl
@[simp] theorem State.setCtrlDraws_stopReq (s : State) (v : Nat) : (s.setCtrlDraws v).stopReq = s.stopReq := rfl
@[simp] theorem State.setCtrlDraws_fault (s : State) (v : Nat) : (s.setCtrlDraws v).fault = s.fault := rfl
@[simp] theorem State.setCtrlDraws_irq (s : State) (v : Nat) : (s.setCtrlDraws v).irq = s.irq := rfl
@[simp] theorem State.setCtrlDraws_nmiPending (s : State) (v : Nat) : (s.setCtrlDraws v).nmiPending = s.nmiPending := rfl
@[simp] theorem State.setCtrlDraws_cfg (s : State) (v : Nat) : (s.setCtrlDraws v).cfg = s.cfg := rfl
@[simp] theorem State.setCtrlDraws_ctrlDraws (s : State) (v : Nat) : (s.setCtrlDraws v).ctrlDraws = v := rfl

end Sys2Proof.Machine
end

