-- ==== Sys2Proof/Laws/Flags.lean ====
section
/-! SUPPORT. What the flag operations do: a flag read after a write, bit 5 of P, and the fields they leave alone. -/

namespace Sys2Proof.Machine

@[simp] theorem State.flag_setA (s : State) (v : Byte) (f : Flag) : (s.setA v).flag f = s.flag f := rfl
@[simp] theorem State.flag_setX (s : State) (v : Byte) (f : Flag) : (s.setX v).flag f = s.flag f := rfl
@[simp] theorem State.flag_setY (s : State) (v : Byte) (f : Flag) : (s.setY v).flag f = s.flag f := rfl
@[simp] theorem State.flag_setSP (s : State) (v : Byte) (f : Flag) : (s.setSP v).flag f = s.flag f := rfl
@[simp] theorem State.flag_setPC (s : State) (v : Word) (f : Flag) : (s.setPC v).flag f = s.flag f := rfl
@[simp] theorem State.flag_setRam (s : State) (v : Memory) (f : Flag) : (s.setRam v).flag f = s.flag f := rfl
@[simp] theorem State.flag_setRun (s : State) (v : RunState) (f : Flag) : (s.setRun v).flag f = s.flag f := rfl
@[simp] theorem State.flag_setFault (s : State) (v : Option FaultRecord) (f : Flag) : (s.setFault v).flag f = s.flag f := rfl

theorem flag_bits_of_put (p : Byte) (f g : Flag) (on : Bool) :
    (((if on then p ||| 0x20 ||| f.mask else (p ||| 0x20) &&& ~~~f.mask) ||| 0x20) ||| 0x20).getLsbD g.bit =
      if g = .u then true else if g = f then on else (p ||| 0x20).getLsbD g.bit := by
  cases f <;> cases g <;> cases on <;> simp [Flag.mask, Flag.bit]

/-- A flag after a flag is written: bit 5 reads 1, the written flag has its value, and the others are unchanged. -/
theorem State.flag_putFlag (s : State) (f g : Flag) (on : Bool) :
    (s.putFlag f on).flag g = if g = .u then true else if g = f then on else s.flag g :=
  flag_bits_of_put s.p f g on

/-- Bit 5 of P always reads 1 (10_state.md R27). -/
@[simp] theorem State.flag_u (s : State) : s.flag .u = true := by
  simp [State.flag, State.getP, Flag.bit]

/-- A write of P stores bit 5 as 1. -/
theorem State.setP_bit5 (s : State) (v : Byte) : (s.setP v).p.getLsbD 5 = true := by
  simp

/-- Writing a flag other than B leaves the stored B bit as it is. -/
theorem State.putFlag_bit4 (s : State) {f : Flag} (h : f ≠ .b) (on : Bool) :
    (s.putFlag f on).p.getLsbD 4 = s.p.getLsbD 4 := by
  cases f <;> cases on <;> simp_all [State.putFlag, State.getP, Flag.mask, Flag.bit]

/-- Writing a flag stores bit 5 as 1. -/
theorem State.putFlag_bit5 (s : State) (f : Flag) (on : Bool) : (s.putFlag f on).p.getLsbD 5 = true := by
  simp [State.putFlag]

@[simp] theorem State.putFlag_a (s : State) (f : Flag) (on : Bool) : (s.putFlag f on).a = s.a := rfl
@[simp] theorem State.putFlag_x (s : State) (f : Flag) (on : Bool) : (s.putFlag f on).x = s.x := rfl
@[simp] theorem State.putFlag_y (s : State) (f : Flag) (on : Bool) : (s.putFlag f on).y = s.y := rfl
@[simp] theorem State.putFlag_sp (s : State) (f : Flag) (on : Bool) : (s.putFlag f on).sp = s.sp := rfl
@[simp] theorem State.putFlag_pc (s : State) (f : Flag) (on : Bool) : (s.putFlag f on).pc = s.pc := rfl
@[simp] theorem State.putFlag_ram (s : State) (f : Flag) (on : Bool) : (s.putFlag f on).ram = s.ram := rfl
@[simp] theorem State.putFlag_run (s : State) (f : Flag) (on : Bool) : (s.putFlag f on).run = s.run := rfl
@[simp] theorem State.putFlag_fault (s : State) (f : Flag) (on : Bool) : (s.putFlag f on).fault = s.fault := rfl
@[simp] theorem State.putFlag_cfg (s : State) (f : Flag) (on : Bool) : (s.putFlag f on).cfg = s.cfg := rfl

/-- Writing a flag changes P and nothing else. -/
theorem State.putFlag_eq (s : State) (f : Flag) (on : Bool) : s.putFlag f on = { s with p := (s.putFlag f on).p } := rfl

/-- `SetZN(r)` (40_core_and_addressing.md R146): Z and N from the result, every other flag unchanged. -/
theorem State.flag_setZN (s : State) (r : Byte) (g : Flag) :
    (s.setZN r).flag g = match g with
      | .z => r == 0
      | .n => r.msb
      | g => s.flag g := by
  cases g <;> simp [State.setZN, State.flag_putFlag]

/-- `SetZN(r)` changes P and nothing else. -/
theorem State.setZN_eq (s : State) (r : Byte) : s.setZN r = { s with p := (s.setZN r).p } := rfl

/-- `Compare(R, M)` (R148): C, Z and N of the unsigned comparison, every other flag unchanged. -/
theorem State.flag_compare (s : State) (reg m : Byte) (g : Flag) :
    (s.compare reg m).flag g = match g with
      | .c => decide (reg.toNat ≥ m.toNat)
      | .z => reg - m == 0
      | .n => (reg - m).msb
      | g => s.flag g := by
  cases g <;> simp [State.compare, State.flag_setZN, State.flag_putFlag]

/-- `Compare` changes P and nothing else. -/
theorem State.compare_eq (s : State) (reg m : Byte) : s.compare reg m = { s with p := (s.compare reg m).p } := rfl

/-- `AddWithCarry(m)` (43_arithmetic_logic.md R195): C, V, Z and N of the sum, every other flag unchanged. -/
theorem State.flag_addWithCarry (s : State) (m : Byte) (g : Flag) :
    (s.addWithCarry m).flag g = match g with
      | .c => adderCarry s.a m (s.flag .c)
      | .v => adderOverflow s.a m (adderResult s.a m (s.flag .c))
      | .z => adderResult s.a m (s.flag .c) == 0
      | .n => (adderResult s.a m (s.flag .c)).msb
      | g => s.flag g := by
  cases g <;> simp [State.addWithCarry, State.flag_setZN, State.flag_putFlag]

/-- `AddWithCarry` changes A and P and nothing else. -/
theorem State.addWithCarry_eq (s : State) (m : Byte) :
    s.addWithCarry m = { s with a := adderResult s.a m (s.flag .c), p := (s.addWithCarry m).p } := rfl

/-- The flags of a shift or rotate (44_shift_rotate.md R214): C, Z and N, every other flag unchanged. -/
theorem State.flag_shiftFlags (s : State) (r : Byte) (c : Bool) (g : Flag) :
    (s.shiftFlags r c).flag g = match g with
      | .c => c
      | .z => r == 0
      | .n => r.msb
      | g => s.flag g := by
  cases g <;> simp [State.shiftFlags, State.flag_setZN, State.flag_putFlag]

/-- `shiftFlags` changes P and nothing else. -/
theorem State.shiftFlags_eq (s : State) (r : Byte) (c : Bool) :
    s.shiftFlags r c = { s with p := (s.shiftFlags r c).p } := rfl

end Sys2Proof.Machine
end

