-- ==== Sys2Proof/Laws/Forms.lean ====
section
/-! SUPPORT. The meaning of every operand form of a mnemonic, in one line: which shared operation it runs, with which
handler, on which operand. A proof about a mnemonic cites one of these and not its arms. -/

namespace Sys2Proof.Machine

/-- What holds of every pair that a list of forms names holds of a pair known to stand in it. -/
theorem of_mem_forms (P : Instr → Operand → Prop) {forms : List (Instr × Operand)} {i : Instr} {o : Operand}
    (each : forms.Forall fun form => P form.1 form.2) (h : (i, o) ∈ forms) : P i o :=
  List.forall_iff_forall_mem.1 each (i, o) h

theorem exec_ldaForms {b : Byte} {w : Word} {i : Instr} {o : Operand} (h : (i, o) ∈ ldaForms b w) (s : State) :
    exec i s = runRead loadA o s :=
  of_mem_forms (fun i o => exec i s = runRead loadA o s) (by repeat' first | rfl | apply And.intro) h

theorem exec_ldxForms {b : Byte} {w : Word} {i : Instr} {o : Operand} (h : (i, o) ∈ ldxForms b w) (s : State) :
    exec i s = runRead loadX o s :=
  of_mem_forms (fun i o => exec i s = runRead loadX o s) (by repeat' first | rfl | apply And.intro) h

theorem exec_ldyForms {b : Byte} {w : Word} {i : Instr} {o : Operand} (h : (i, o) ∈ ldyForms b w) (s : State) :
    exec i s = runRead loadY o s :=
  of_mem_forms (fun i o => exec i s = runRead loadY o s) (by repeat' first | rfl | apply And.intro) h

theorem exec_staForms {b : Byte} {w : Word} {i : Instr} {o : Operand} (h : (i, o) ∈ staForms b w) (s : State) :
    exec i s = runStore (opcodeOf i) o s.a s :=
  of_mem_forms (fun i o => exec i s = runStore (opcodeOf i) o s.a s) (by repeat' first | rfl | apply And.intro) h

theorem exec_stxForms {b : Byte} {w : Word} {i : Instr} {o : Operand} (h : (i, o) ∈ stxForms b w) (s : State) :
    exec i s = runStore (opcodeOf i) o s.x s :=
  of_mem_forms (fun i o => exec i s = runStore (opcodeOf i) o s.x s) (by repeat' first | rfl | apply And.intro) h

theorem exec_styForms {b : Byte} {w : Word} {i : Instr} {o : Operand} (h : (i, o) ∈ styForms b w) (s : State) :
    exec i s = runStore (opcodeOf i) o s.y s :=
  of_mem_forms (fun i o => exec i s = runStore (opcodeOf i) o s.y s) (by repeat' first | rfl | apply And.intro) h

theorem exec_adcForms {b : Byte} {w : Word} {i : Instr} {o : Operand} (h : (i, o) ∈ adcForms b w) (s : State) :
    exec i s = runRead addA o s :=
  of_mem_forms (fun i o => exec i s = runRead addA o s) (by repeat' first | rfl | apply And.intro) h

theorem exec_sbcForms {b : Byte} {w : Word} {i : Instr} {o : Operand} (h : (i, o) ∈ sbcForms b w) (s : State) :
    exec i s = runRead subtractA o s :=
  of_mem_forms (fun i o => exec i s = runRead subtractA o s) (by repeat' first | rfl | apply And.intro) h

theorem exec_andForms {b : Byte} {w : Word} {i : Instr} {o : Operand} (h : (i, o) ∈ andForms b w) (s : State) :
    exec i s = runRead andA o s :=
  of_mem_forms (fun i o => exec i s = runRead andA o s) (by repeat' first | rfl | apply And.intro) h

theorem exec_oraForms {b : Byte} {w : Word} {i : Instr} {o : Operand} (h : (i, o) ∈ oraForms b w) (s : State) :
    exec i s = runRead orA o s :=
  of_mem_forms (fun i o => exec i s = runRead orA o s) (by repeat' first | rfl | apply And.intro) h

theorem exec_eorForms {b : Byte} {w : Word} {i : Instr} {o : Operand} (h : (i, o) ∈ eorForms b w) (s : State) :
    exec i s = runRead xorA o s :=
  of_mem_forms (fun i o => exec i s = runRead xorA o s) (by repeat' first | rfl | apply And.intro) h

theorem exec_bitForms {b : Byte} {w : Word} {i : Instr} {o : Operand} (h : (i, o) ∈ bitForms b w) (s : State) :
    exec i s = runRead testBits o s :=
  of_mem_forms (fun i o => exec i s = runRead testBits o s) (by repeat' first | rfl | apply And.intro) h

theorem exec_cmpForms {b : Byte} {w : Word} {i : Instr} {o : Operand} (h : (i, o) ∈ cmpForms b w) (s : State) :
    exec i s = runRead compareA o s :=
  of_mem_forms (fun i o => exec i s = runRead compareA o s) (by repeat' first | rfl | apply And.intro) h

theorem exec_cpxForms {b : Byte} {w : Word} {i : Instr} {o : Operand} (h : (i, o) ∈ cpxForms b w) (s : State) :
    exec i s = runRead compareX o s :=
  of_mem_forms (fun i o => exec i s = runRead compareX o s) (by repeat' first | rfl | apply And.intro) h

theorem exec_cpyForms {b : Byte} {w : Word} {i : Instr} {o : Operand} (h : (i, o) ∈ cpyForms b w) (s : State) :
    exec i s = runRead compareY o s :=
  of_mem_forms (fun i o => exec i s = runRead compareY o s) (by repeat' first | rfl | apply And.intro) h

theorem exec_incForms {b : Byte} {w : Word} {i : Instr} {o : Operand} (h : (i, o) ∈ incForms b w) (s : State) :
    exec i s = runModify (opcodeOf i) increment setCounted o s :=
  of_mem_forms (fun i o => exec i s = runModify (opcodeOf i) increment setCounted o s)
    (by repeat' first | rfl | apply And.intro) h

theorem exec_decForms {b : Byte} {w : Word} {i : Instr} {o : Operand} (h : (i, o) ∈ decForms b w) (s : State) :
    exec i s = runModify (opcodeOf i) decrement setCounted o s :=
  of_mem_forms (fun i o => exec i s = runModify (opcodeOf i) decrement setCounted o s)
    (by repeat' first | rfl | apply And.intro) h

theorem exec_aslForms {b : Byte} {w : Word} {i : Instr} {o : Operand} (h : (i, o) ∈ aslForms b w) (s : State) :
    exec i s = runModify (opcodeOf i) aslStep setShifted o s :=
  of_mem_forms (fun i o => exec i s = runModify (opcodeOf i) aslStep setShifted o s)
    (by repeat' first | rfl | apply And.intro) h

theorem exec_lsrForms {b : Byte} {w : Word} {i : Instr} {o : Operand} (h : (i, o) ∈ lsrForms b w) (s : State) :
    exec i s = runModify (opcodeOf i) lsrStep setShifted o s :=
  of_mem_forms (fun i o => exec i s = runModify (opcodeOf i) lsrStep setShifted o s)
    (by repeat' first | rfl | apply And.intro) h

theorem exec_rolForms {b : Byte} {w : Word} {i : Instr} {o : Operand} (h : (i, o) ∈ rolForms b w) (s : State) :
    exec i s = runModify (opcodeOf i) rolStep setShifted o s :=
  of_mem_forms (fun i o => exec i s = runModify (opcodeOf i) rolStep setShifted o s)
    (by repeat' first | rfl | apply And.intro) h

theorem exec_rorForms {b : Byte} {w : Word} {i : Instr} {o : Operand} (h : (i, o) ∈ rorForms b w) (s : State) :
    exec i s = runModify (opcodeOf i) rorStep setShifted o s :=
  of_mem_forms (fun i o => exec i s = runModify (opcodeOf i) rorStep setShifted o s)
    (by repeat' first | rfl | apply And.intro) h

theorem exec_sloForms {b : Byte} {w : Word} {i : Instr} {o : Operand} (h : (i, o) ∈ sloForms b w) (s : State) :
    exec i s = runModify (opcodeOf i) aslStep shiftThenOr o s :=
  of_mem_forms (fun i o => exec i s = runModify (opcodeOf i) aslStep shiftThenOr o s)
    (by repeat' first | rfl | apply And.intro) h

theorem exec_rlaForms {b : Byte} {w : Word} {i : Instr} {o : Operand} (h : (i, o) ∈ rlaForms b w) (s : State) :
    exec i s = runModify (opcodeOf i) rolStep rotateThenAnd o s :=
  of_mem_forms (fun i o => exec i s = runModify (opcodeOf i) rolStep rotateThenAnd o s)
    (by repeat' first | rfl | apply And.intro) h

theorem exec_sreForms {b : Byte} {w : Word} {i : Instr} {o : Operand} (h : (i, o) ∈ sreForms b w) (s : State) :
    exec i s = runModify (opcodeOf i) lsrStep shiftThenXor o s :=
  of_mem_forms (fun i o => exec i s = runModify (opcodeOf i) lsrStep shiftThenXor o s)
    (by repeat' first | rfl | apply And.intro) h

theorem exec_rraForms {b : Byte} {w : Word} {i : Instr} {o : Operand} (h : (i, o) ∈ rraForms b w) (s : State) :
    exec i s = runModify (opcodeOf i) rorStep rotateThenAdd o s :=
  of_mem_forms (fun i o => exec i s = runModify (opcodeOf i) rorStep rotateThenAdd o s)
    (by repeat' first | rfl | apply And.intro) h

theorem exec_dcpForms {b : Byte} {w : Word} {i : Instr} {o : Operand} (h : (i, o) ∈ dcpForms b w) (s : State) :
    exec i s = runModify (opcodeOf i) decrement compareCounted o s :=
  of_mem_forms (fun i o => exec i s = runModify (opcodeOf i) decrement compareCounted o s)
    (by repeat' first | rfl | apply And.intro) h

theorem exec_isbForms {b : Byte} {w : Word} {i : Instr} {o : Operand} (h : (i, o) ∈ isbForms b w) (s : State) :
    exec i s = runModify (opcodeOf i) increment subtractCounted o s :=
  of_mem_forms (fun i o => exec i s = runModify (opcodeOf i) increment subtractCounted o s)
    (by repeat' first | rfl | apply And.intro) h

theorem exec_saxForms {b : Byte} {w : Word} {i : Instr} {o : Operand} (h : (i, o) ∈ saxForms b w) (s : State) :
    exec i s = runStore (opcodeOf i) o (s.a &&& s.x) s :=
  of_mem_forms (fun i o => exec i s = runStore (opcodeOf i) o (s.a &&& s.x) s)
    (by repeat' first | rfl | apply And.intro) h

theorem exec_laxForms {b : Byte} {w : Word} {i : Instr} {o : Operand} (h : (i, o) ∈ laxForms b w) (s : State) :
    exec i s = runRead loadAX o s :=
  of_mem_forms (fun i o => exec i s = runRead loadAX o s) (by repeat' first | rfl | apply And.intro) h

theorem exec_lasForms {b : Byte} {w : Word} {i : Instr} {o : Operand} (h : (i, o) ∈ lasForms b w) (s : State) :
    exec i s = runRead loadAXS o s :=
  of_mem_forms (fun i o => exec i s = runRead loadAXS o s) (by rfl) h

theorem exec_ancForms {op b : Byte} {w : Word} {i : Instr} {o : Operand} (h : (i, o) ∈ ancForms op b w) (s : State) :
    exec i s = runRead andCarry o s :=
  of_mem_forms (fun i o => exec i s = runRead andCarry o s) (by rfl) h

theorem exec_alrForms {b : Byte} {w : Word} {i : Instr} {o : Operand} (h : (i, o) ∈ alrForms b w) (s : State) :
    exec i s = runRead andShift o s :=
  of_mem_forms (fun i o => exec i s = runRead andShift o s) (by rfl) h

theorem exec_arrForms {b : Byte} {w : Word} {i : Instr} {o : Operand} (h : (i, o) ∈ arrForms b w) (s : State) :
    exec i s = runRead andRotate o s :=
  of_mem_forms (fun i o => exec i s = runRead andRotate o s) (by rfl) h

theorem exec_sbxForms {b : Byte} {w : Word} {i : Instr} {o : Operand} (h : (i, o) ∈ sbxForms b w) (s : State) :
    exec i s = runRead subtractX o s :=
  of_mem_forms (fun i o => exec i s = runRead subtractX o s) (by rfl) h

theorem exec_usbcForms {b : Byte} {w : Word} {i : Instr} {o : Operand} (h : (i, o) ∈ usbcForms b w) (s : State) :
    exec i s = runRead subtractA o s :=
  of_mem_forms (fun i o => exec i s = runRead subtractA o s) (by rfl) h

theorem exec_nopForms {op b : Byte} {w : Word} {i : Instr} {o : Operand} (h : (i, o) ∈ nopForms op b w) (s : State) :
    exec i s = runRead ignoreOperand o s :=
  of_mem_forms (fun i o => exec i s = runRead ignoreOperand o s) (by repeat' first | rfl | apply And.intro) h

end Sys2Proof.Machine
end

