-- ==== Sys2Proof/Laws/Memory.lean ====
section
/-! SUPPORT. The laws of byte storage: a read after a write, and that every memory operation keeps the canonical form
(`Memory.wf`) and the key bound (`Memory.below`). -/

namespace Sys2Proof

@[simp] theorem Memory.read_nil (k : Nat) : Memory.read [] k = Memory.unlisted := rfl

theorem Memory.read_cons (c : Host.Cell) (m : Memory) (k : Nat) :
    Memory.read (c :: m) k = if c.1 = k then c.2 else Memory.read m k := rfl

theorem Memory.read_erase_same (m : Memory) (k : Nat) : (m.erase k).read k = Memory.unlisted := by
  induction m with
  | nil => rfl
  | cons c m ih =>
    by_cases h : c.1 = k
    · simpa [Memory.erase, h] using ih
    · simpa [Memory.erase, Memory.read_cons, h] using ih

theorem Memory.read_erase_other (m : Memory) {k j : Nat} (h : j ≠ k) : (m.erase k).read j = m.read j := by
  induction m with
  | nil => rfl
  | cons c m ih =>
    by_cases hc : c.1 = k
    · have hj : c.1 ≠ j := fun e => h (e.symm.trans hc)
      simpa [Memory.erase, Memory.read_cons, hc, hj, Ne.symm h] using ih
    · simp only [Memory.erase, List.filter_cons, decide_not, hc, decide_false, Bool.not_false, if_true,
        Memory.read_cons] at ih ⊢
      rw [ih]

theorem Memory.read_insert_same {m : Memory} {k : Nat} (v : Byte) (h : ∀ c ∈ m, c.1 ≠ k) :
    (m.insert k v).read k = v := by
  induction m with
  | nil => simp [Memory.insert, Memory.read_cons]
  | cons c m ih =>
    by_cases hc : k < c.1
    · simp [Memory.insert, hc, Memory.read_cons]
    · simp only [Memory.insert, hc, if_false, Memory.read_cons, h c (by simp)]
      exact ih (fun d hd => h d (by simp [hd]))

theorem Memory.read_insert_other (m : Memory) {k j : Nat} (v : Byte) (h : j ≠ k) :
    (m.insert k v).read j = m.read j := by
  induction m with
  | nil => simp [Memory.insert, Memory.read_cons, Ne.symm h]
  | cons c m ih =>
    by_cases hc : k < c.1
    · simp [Memory.insert, hc, Memory.read_cons, Ne.symm h]
    · simp [Memory.insert, hc, Memory.read_cons, ih]

theorem Memory.erase_key_ne {m : Memory} {k : Nat} : ∀ c ∈ m.erase k, c.1 ≠ k := by
  intro c hc
  simpa [Memory.erase] using (List.mem_filter.mp hc).2

/-- A read after a write at the same key gives the value written. -/
@[simp] theorem Memory.read_write_same (m : Memory) (k : Nat) (v : Byte) : (m.write k v).read k = v := by
  unfold Memory.write
  split
  · rename_i h
    rw [Memory.read_erase_same, h]
  · exact Memory.read_insert_same v Memory.erase_key_ne

/-- A write leaves every other key alone. -/
@[simp] theorem Memory.read_write_other (m : Memory) {k j : Nat} (v : Byte) (h : j ≠ k) :
    (m.write k v).read j = m.read j := by
  unfold Memory.write
  split
  · exact Memory.read_erase_other m h
  · rw [Memory.read_insert_other _ v h, Memory.read_erase_other m h]

theorem Memory.wf_cons (c : Host.Cell) (m : Memory) :
    Memory.wf (c :: m) = true ↔ c.2 ≠ Memory.unlisted ∧ (∀ d ∈ m, c.1 < d.1) ∧ Memory.wf m = true := by
  simp [Memory.wf, and_assoc]

theorem Memory.wf_erase {m : Memory} (h : m.wf = true) (k : Nat) : (m.erase k).wf = true := by
  induction m with
  | nil => rfl
  | cons c m ih =>
    obtain ⟨h1, h2, h3⟩ := (Memory.wf_cons c m).mp h
    by_cases hc : c.1 = k
    · simpa [Memory.erase, hc] using ih h3
    · have : Memory.erase (c :: m) k = c :: Memory.erase m k := by simp [Memory.erase, hc]
      rw [this, Memory.wf_cons]
      exact ⟨h1, fun d hd => h2 d (List.mem_filter.mp hd).1, ih h3⟩

theorem Memory.mem_insert {m : Memory} {k : Nat} {v : Byte} {d : Host.Cell} :
    d ∈ m.insert k v ↔ d = (k, v) ∨ d ∈ m := by
  induction m with
  | nil => simp [Memory.insert]
  | cons c m ih =>
    by_cases hc : k < c.1
    · simp [Memory.insert, hc]
    · simp only [Memory.insert, hc, if_false, List.mem_cons, ih]
      tauto

theorem Memory.wf_insert {m : Memory} (h : m.wf = true) {k : Nat} {v : Byte} (hk : ∀ c ∈ m, c.1 ≠ k)
    (hv : v ≠ Memory.unlisted) : (m.insert k v).wf = true := by
  induction m with
  | nil => simp [Memory.insert, Memory.wf, hv]
  | cons c m ih =>
    obtain ⟨h1, h2, h3⟩ := (Memory.wf_cons c m).mp h
    by_cases hc : k < c.1
    · rw [Memory.insert, if_pos hc, Memory.wf_cons]
      refine ⟨hv, ?_, h⟩
      intro d hd
      rcases List.mem_cons.mp hd with rfl | hd
      · exact hc
      · exact hc.trans (h2 d hd)
    · rw [Memory.insert, if_neg hc, Memory.wf_cons]
      refine ⟨h1, ?_, ih h3 (fun d hd => hk d (by simp [hd]))⟩
      intro d hd
      rcases Memory.mem_insert.mp hd with rfl | hd
      · exact lt_of_le_of_ne (not_lt.mp hc) (hk c (by simp))
      · exact h2 d hd

/-- A write keeps the canonical form. -/
theorem Memory.wf_write {m : Memory} (h : m.wf = true) (k : Nat) (v : Byte) : (m.write k v).wf = true := by
  unfold Memory.write
  split
  · exact Memory.wf_erase h k
  · rename_i hv
    exact Memory.wf_insert (Memory.wf_erase h k) Memory.erase_key_ne hv

theorem Memory.below_iff {m : Memory} {n : Nat} : m.below n = true ↔ ∀ c ∈ m, c.1 < n := by
  simp [Memory.below]

/-- A write below a bound keeps every key below it. -/
theorem Memory.below_write {m : Memory} {n : Nat} (h : m.below n = true) {k : Nat} (hk : k < n) (v : Byte) :
    (m.write k v).below n = true := by
  rw [Memory.below_iff] at h ⊢
  intro c hc
  unfold Memory.write at hc
  split at hc
  · exact h c (List.mem_filter.mp hc).1
  · rcases Memory.mem_insert.mp hc with rfl | hc
    · exact hk
    · exact h c (List.mem_filter.mp hc).1

theorem Memory.ofBytesAt_key_le {k : Nat} {bs : List Byte} : ∀ c ∈ Memory.ofBytesAt k bs, k ≤ c.1 := by
  induction bs generalizing k with
  | nil => simp [Memory.ofBytesAt]
  | cons b bs ih =>
    intro c hc
    unfold Memory.ofBytesAt at hc
    split at hc
    · exact (Nat.le_succ k).trans (ih c hc)
    · rcases List.mem_cons.mp hc with rfl | hc
      · exact le_refl _
      · exact (Nat.le_succ k).trans (ih c hc)

/-- Bytes laid out are in canonical form. -/
theorem Memory.wf_ofBytesAt (k : Nat) (bs : List Byte) : (Memory.ofBytesAt k bs).wf = true := by
  induction bs generalizing k with
  | nil => rfl
  | cons b bs ih =>
    unfold Memory.ofBytesAt
    split
    · exact ih (k + 1)
    · rename_i hb
      rw [Memory.wf_cons]
      exact ⟨hb, fun d hd => Memory.ofBytesAt_key_le d hd, ih (k + 1)⟩

/-- Bytes laid out stay within their length. -/
theorem Memory.below_ofBytesAt (k : Nat) (bs : List Byte) : (Memory.ofBytesAt k bs).below (k + bs.length) = true := by
  rw [Memory.below_iff]
  induction bs generalizing k with
  | nil => simp [Memory.ofBytesAt]
  | cons b bs ih =>
    intro c hc
    have hstep : k + 1 + bs.length = k + (b :: bs).length := by simp; omega
    unfold Memory.ofBytesAt at hc
    split at hc
    · exact hstep ▸ ih (k + 1) c hc
    · rcases List.mem_cons.mp hc with rfl | hc
      · simp
      · exact hstep ▸ ih (k + 1) c hc

theorem Memory.read_of_key_ne {m : Memory} {k : Nat} (h : ∀ c ∈ m, c.1 ≠ k) : m.read k = Memory.unlisted := by
  induction m with
  | nil => rfl
  | cons c m ih =>
    rw [Memory.read_cons, if_neg (h c (by simp)), ih (fun d hd => h d (by simp [hd]))]

/-- Byte `i` of bytes laid out from key `k` is read at key `k + i`. -/
theorem Memory.read_ofBytesAt (k i : Nat) (bs : List Byte) :
    (Memory.ofBytesAt k bs).read (k + i) = bs.getD i Memory.unlisted := by
  induction bs generalizing k i with
  | nil => simp [Memory.ofBytesAt]
  | cons b bs ih =>
    have hne : i = 0 → (Memory.ofBytesAt (k + 1) bs).read (k + i) = Memory.unlisted := by
      rintro rfl
      exact Memory.read_of_key_ne (fun c hc => by have := Memory.ofBytesAt_key_le c hc; omega)
    unfold Memory.ofBytesAt
    split
    · rename_i hb
      cases i with
      | zero => rw [hne rfl]; simp [hb]
      | succ i => rw [show k + (i + 1) = k + 1 + i by omega, ih]; simp
    · cases i with
      | zero => simp [Memory.read_cons]
      | succ i =>
        rw [Memory.read_cons, if_neg (by simp), show k + (i + 1) = k + 1 + i by omega, ih]
        simp

theorem Memory.normal_keeps {n : Nat} (m : Memory) {acc : Memory} (h : acc.wf = true ∧ acc.below n = true) :
    (m.foldl (fun acc c => if c.1 < n then acc.write c.1 c.2 else acc) acc).wf = true ∧
      (m.foldl (fun acc c => if c.1 < n then acc.write c.1 c.2 else acc) acc).below n = true := by
  induction m generalizing acc with
  | nil => exact h
  | cons c m ih =>
    simp only [List.foldl_cons]
    by_cases hc : c.1 < n
    · rw [if_pos hc]
      exact ih ⟨Memory.wf_write h.1 _ _, Memory.below_write h.2 hc _⟩
    · rw [if_neg hc]
      exact ih h

/-- `normal` answers a canonical memory within the bound. -/
theorem Memory.normal_wf (n : Nat) (m : Memory) : (m.normal n).wf = true ∧ (m.normal n).below n = true :=
  Memory.normal_keeps m ⟨rfl, rfl⟩

theorem Memory.read_normal_aux {n : Nat} {m : Memory} (h : m.wf = true) {k : Nat} (hk : k < n) (acc : Memory) :
    (m.foldl (fun acc c => if c.1 < n then acc.write c.1 c.2 else acc) acc).read k =
      if (∃ c ∈ m, c.1 = k) then m.read k else acc.read k := by
  induction m generalizing acc with
  | nil => simp
  | cons c m ih =>
    obtain ⟨-, h2, h3⟩ := (Memory.wf_cons c m).mp h
    rw [List.foldl_cons, ih h3]
    by_cases hc : c.1 = k
    · have hno : ¬ ∃ d ∈ m, d.1 = k := by
        rintro ⟨d, hd, rfl⟩
        exact absurd (h2 d hd) (by omega)
      rw [if_neg hno, if_pos (hc ▸ hk), if_pos ⟨c, by simp, hc⟩, Memory.read_cons, if_pos hc, ← hc,
        Memory.read_write_same]
    · have hiff : (∃ d ∈ c :: m, d.1 = k) ↔ ∃ d ∈ m, d.1 = k := by
        simp [hc]
      simp only [hiff, Memory.read_cons, if_neg hc]
      split
      · rfl
      · split
        · exact Memory.read_write_other _ _ (Ne.symm hc)
        · rfl

/-- `normal` reads as a canonical list does, for every key below the bound. -/
theorem Memory.read_normal {n : Nat} {m : Memory} (h : m.wf = true) {k : Nat} (hk : k < n) :
    (m.normal n).read k = m.read k := by
  rw [Memory.normal, Memory.read_normal_aux h hk]
  split
  · rfl
  · rename_i hno
    exact (Memory.read_of_key_ne (fun c hc he => hno ⟨c, hc, he⟩)).symm

end Sys2Proof
end

