-- ==== Sys2Proof/Laws/Ops.lean ====
section
/-! SUPPORT. One lemma per shared operation: what it reads, what it changes, and when it cannot. -/

namespace Sys2Proof.Machine

/-! The bus. -/

/-- A read depends on RAM and the configuration alone. -/
theorem State.read_congr {s t : State} (hr : t.ram = s.ram) (hc : t.cfg = s.cfg) (addr : Word) :
    t.read addr = s.read addr := by
  simp [State.read, hr, hc]

@[simp] theorem State.read_setA (s : State) (v : Byte) (addr : Word) : (s.setA v).read addr = s.read addr := rfl
@[simp] theorem State.read_setX (s : State) (v : Byte) (addr : Word) : (s.setX v).read addr = s.read addr := rfl
@[simp] theorem State.read_setY (s : State) (v : Byte) (addr : Word) : (s.setY v).read addr = s.read addr := rfl
@[simp] theorem State.read_setSP (s : State) (v : Byte) (addr : Word) : (s.setSP v).read addr = s.read addr := rfl
@[simp] theorem State.read_setPC (s : State) (v : Word) (addr : Word) : (s.setPC v).read addr = s.read addr := rfl
@[simp] theorem State.read_setP (s : State) (v : Byte) (addr : Word) : (s.setP v).read addr = s.read addr := rfl
@[simp] theorem State.read_setRun (s : State) (v : RunState) (addr : Word) : (s.setRun v).read addr = s.read addr := rfl
@[simp] theorem State.read_setFault (s : State) (v : Option FaultRecord) (addr : Word) :
    (s.setFault v).read addr = s.read addr := rfl
@[simp] theorem State.read_putFlag (s : State) (f : Flag) (on : Bool) (addr : Word) :
    (s.putFlag f on).read addr = s.read addr := rfl

theorem State.read_ram (s : State) {addr : Word} (h : addr.toNat < 0x8000) : s.read addr = s.ram.read addr.toNat := by
  simp [State.read, h]

theorem State.read_rom (s : State) {addr : Word} (h : ¬ addr.toNat < 0x8000) : s.read addr = s.cfg.cart.romRead addr := by
  simp [State.read, h]

/-- A RAM byte after a RAM write at its address. -/
theorem State.read_setRam_same (s : State) {addr : Word} (h : addr.toNat < 0x8000) (v : Byte) :
    (s.setRam (s.ram.write addr.toNat v)).read addr = v := by
  simp [State.read, h]

/-- Every other byte after a RAM write. -/
theorem State.read_setRam_other (s : State) {addr b : Word} (h : b ≠ addr) (v : Byte) :
    (s.setRam (s.ram.write addr.toNat v)).read b = s.read b := by
  have hn : b.toNat ≠ addr.toNat := fun e => h (BitVec.eq_of_toNat_eq e)
  simp [State.read, Memory.read_write_other _ _ hn]

theorem State.write_ram (s : State) {addr : Word} (h : addr.toNat < 0x8000) (v : Byte) :
    s.write addr v = some (s.setRam (s.ram.write addr.toNat v)) := by
  simp [State.write, h]

theorem State.write_rom (s : State) {addr : Word} (h : ¬ addr.toNat < 0x8000) (v : Byte) : s.write addr v = none := by
  simp [State.write, h]

/-- When a bus write answers a state, the address is in RAM and one RAM byte is written (20_memory.md R56, R57). -/
theorem State.write_eq_some {s t : State} {addr : Word} {v : Byte} (h : s.write addr v = some t) :
    addr.toNat < 0x8000 ∧ t = s.setRam (s.ram.write addr.toNat v) := by
  unfold State.write at h
  split at h
  · exact ⟨‹_›, (Option.some.inj h).symm⟩
  · cases h

/-! The stack. -/

theorem stackAddr_toNat (sp : Byte) : (stackAddr sp).toNat = 256 + sp.toNat := by
  have h := sp.isLt
  simp [stackAddr, zext16]
  omega

/-- The stack page is RAM (20_memory.md R63). -/
theorem stackAddr_lt (sp : Byte) : (stackAddr sp).toNat < 0x8000 := by
  have h := sp.isLt
  rw [stackAddr_toNat]
  omega

theorem stackAddr_inj {p q : Byte} (h : stackAddr p = stackAddr q) : p = q := by
  have := congrArg BitVec.toNat h
  rw [stackAddr_toNat, stackAddr_toNat] at this
  exact BitVec.eq_of_toNat_eq (by omega)

/-- A push is a bus write that cannot fail, then the decrement (R64). -/
theorem State.push_eq_write (s : State) (v : Byte) :
    s.write (stackAddr s.sp) v = some ((s.push v).setSP s.sp) := by
  rw [State.write_ram s (stackAddr_lt s.sp)]
  rfl

@[simp] theorem State.push_sp (s : State) (v : Byte) : (s.push v).sp = s.sp - 1 := rfl
@[simp] theorem State.push_pc (s : State) (v : Byte) : (s.push v).pc = s.pc := rfl
@[simp] theorem State.push_p (s : State) (v : Byte) : (s.push v).p = s.p := rfl
@[simp] theorem State.push_cfg (s : State) (v : Byte) : (s.push v).cfg = s.cfg := rfl
@[simp] theorem State.push_flag (s : State) (v : Byte) (f : Flag) : (s.push v).flag f = s.flag f := rfl

/-- A push changes SP and RAM and nothing else. -/
theorem State.push_eq (s : State) (v : Byte) : s.push v = { s with sp := s.sp - 1, ram := (s.push v).ram } := rfl

/-- The byte pushed stands at the old SP (R64). -/
theorem State.read_push_same (s : State) (v : Byte) : (s.push v).read (stackAddr s.sp) = v :=
  State.read_setRam_same s (stackAddr_lt s.sp) v

/-- A push changes no byte but the one at the old SP. -/
theorem State.read_push_other (s : State) {addr : Word} (h : addr ≠ stackAddr s.sp) (v : Byte) :
    (s.push v).read addr = s.read addr :=
  State.read_setRam_other s h v

/-- A pop answers the byte above SP and moves SP up; nothing else changes (R65). -/
theorem State.pop_eq (s : State) : s.pop = (s.read (stackAddr (s.sp + 1)), { s with sp := s.sp + 1 }) := rfl

/-- A pop after a push gives the byte back and restores SP (R66). -/
theorem State.pop_push (s : State) (v : Byte) : (s.push v).pop = (v, { s with ram := (s.push v).ram }) := by
  rw [State.pop_eq]
  have h : (s.push v).sp + 1 = s.sp := by simp
  rw [h, State.read_push_same]
  rfl

theorem State.pushWord_eq (s : State) (w : Word) : s.pushWord w = { s with sp := s.sp - 2, ram := (s.pushWord w).ram } := by
  have h : s.sp - 1 - 1 = s.sp - 2 := by
    rw [BitVec.sub_sub]; rfl
  simp only [State.pushWord, State.push, State.setRam, State.setSP, h]

theorem State.popWord_eq (s : State) :
    s.popWord = (wordOf (s.read (stackAddr (s.sp + 2))) (s.read (stackAddr (s.sp + 1))), { s with sp := s.sp + 2 }) := by
  have h : s.sp + 1 + 1 = s.sp + 2 := by
    rw [BitVec.add_assoc]; rfl
  simp only [State.popWord, State.pop_eq, h]
  rfl

/-! Faults, jams and handlers. -/

/-- Raising a fault sets run and the record and nothing else (60_exceptions.md R306). -/
theorem State.takeFault_eq (s : State) (kind : FaultKind) (opcode : Byte) :
    s.takeFault kind opcode =
      { s with run := .faulted, fault := some { kind := kind, pc := s.pc, opcode := opcode } } := rfl

/-- JAM sets run, the record and PC and nothing else (60_exceptions.md R309). -/
theorem State.takeJam_eq (s : State) (opcode : Byte) :
    s.takeJam opcode =
      { s with run := .jammed, fault := some { kind := .jam, pc := s.pc, opcode := opcode }, pc := s.pc + 1 } := rfl

/-- Handler entry changes SP, P, PC and RAM and nothing else (60_exceptions.md R318). -/
theorem State.enterHandler_eq (s : State) (ret : Word) (pushedP : Byte) (vector : Word) :
    s.enterHandler ret pushedP vector =
      { s with
        sp := s.sp - 3
        p := (s.enterHandler ret pushedP vector).p
        pc := (s.enterHandler ret pushedP vector).pc
        ram := (s.enterHandler ret pushedP vector).ram } := by
  have h : s.sp - 1 - 1 - 1 = s.sp - 3 := by
    rw [BitVec.sub_sub, BitVec.sub_sub]; rfl
  simp only [State.enterHandler, State.pushWord, State.push, State.setRam, State.setSP, State.putFlag, State.setP,
    State.setPC, h]

/-- Handler entry sets I and leaves every other flag (R226, R318). -/
theorem State.flag_enterHandler (s : State) (ret : Word) (pushedP : Byte) (vector : Word) (f : Flag) :
    (s.enterHandler ret pushedP vector).flag f = if f = .i then true else s.flag f := by
  simp only [State.enterHandler, State.flag_setPC, State.flag_putFlag, State.push_flag, State.pushWord]
  cases f <;> simp

/-- A handler entered through a vector in the ROM window goes where the vector points: no push can change it. -/
theorem State.enterHandler_pc (s : State) (ret : Word) (pushedP : Byte) {vector : Word}
    (h0 : ¬ vector.toNat < 0x8000) (h1 : ¬ (vector + 1).toNat < 0x8000) :
    (s.enterHandler ret pushedP vector).pc = s.read16 vector := by
  simp only [State.enterHandler, State.setPC_pc, State.read16, State.read_rom _ h0, State.read_rom _ h1,
    State.putFlag_cfg, State.push_cfg, State.pushWord]

/-! How a handler ends. -/

/-- An implied instruction always answers a next state. -/
theorem runImplied_eq (handler : State → State) (s : State) :
    runImplied handler s = .next ((handler s).setPC ((handler s).pc + 1)) := rfl

/-- A read instruction always answers a next state. -/
theorem runRead_eq (handler : Byte → State → State) (o : Operand) (s : State) :
    runRead handler o s =
      .next ((handler (Operand.value s o) s).setPC ((handler (Operand.value s o) s).pc + o.length)) := rfl

/-- A write instruction whose effective address is in RAM. -/
theorem runWrite_ram (opcode : Byte) {o : Operand} (v : Byte) (after : State → State) {s : State}
    (h : (Operand.ea s o).toNat < 0x8000) :
    runWrite opcode o v after s =
      .next ((after (s.setRam (s.ram.write (Operand.ea s o).toNat v))).advance o.length) := by
  simp [runWrite, State.write_ram s h]

/-- A write instruction whose effective address is in ROM: the precise fault (60_exceptions.md R302, R306). -/
theorem runWrite_rom (opcode : Byte) {o : Operand} (v : Byte) (after : State → State) {s : State}
    (h : ¬ (Operand.ea s o).toNat < 0x8000) :
    runWrite opcode o v after s = .next (s.takeFault (.readOnlyViolation (Operand.ea s o) v) opcode) := by
  simp [runWrite, State.write_rom s h]

/-- What a write instruction can answer: the write and what follows it, or the fault. -/
theorem runWrite_cases {opcode : Byte} {o : Operand} {v : Byte} {after : State → State} {s t : State}
    (h : runWrite opcode o v after s = .next t) :
    ((Operand.ea s o).toNat < 0x8000 ∧
      t = (after (s.setRam (s.ram.write (Operand.ea s o).toNat v))).advance o.length) ∨
    (¬ (Operand.ea s o).toNat < 0x8000 ∧ t = s.takeFault (.readOnlyViolation (Operand.ea s o) v) opcode) := by
  by_cases hr : (Operand.ea s o).toNat < 0x8000
  · rw [runWrite_ram _ _ _ hr] at h
    injection h with h
    exact .inl ⟨hr, h.symm⟩
  · rw [runWrite_rom _ _ _ hr] at h
    injection h with h
    exact .inr ⟨hr, h.symm⟩

/-- A byte placed on the bus is read back where the window shows it once (20_memory.md R54). -/
theorem State.read_placeByte (s : State) (addr : Word) (v : Byte) : (s.placeByte addr v).read addr = v := by
  by_cases h : addr.toNat < 0x8000
  · simp [State.placeByte, h, State.read]
  · simp [State.placeByte, h, State.read, Cartridge.romRead]

end Sys2Proof.Machine
end

