-- ==== Sys2Proof/Laws/Frames.lean ====
section
/-! SUPPORT. The frame terms of Safety.lean over the shared operations: which flags each flag computation keeps, when
memory is kept, what a pushed word and a handler entry leave on the stack, and words taken apart and put together. -/

namespace Sys2Proof.Machine

/-! Words. -/

/-- A word's value from its two bytes. -/
theorem wordOf_toNat (hi lo : Byte) : (wordOf hi lo).toNat = 256 * hi.toNat + lo.toNat := by
  have := lo.isLt
  simp only [wordOf, BitVec.toNat_append, Nat.shiftLeft_eq]
  rw [← Nat.mul_comm, ← Nat.two_pow_add_eq_or_of_lt (by omega)]

theorem lo8_toNat (w : Word) : (lo8 w).toNat = w.toNat % 256 := by
  simp [lo8, BitVec.extractLsb'_toNat]

theorem hi8_toNat (w : Word) : (hi8 w).toNat = w.toNat / 256 := by
  have := w.isLt
  simp only [hi8, BitVec.extractLsb'_toNat, Nat.shiftRight_eq_div_pow]
  omega

/-- A word taken apart and put together again. -/
theorem wordOf_hi8_lo8 (w : Word) : wordOf (hi8 w) (lo8 w) = w :=
  BitVec.eq_of_toNat_eq (by rw [wordOf_toNat, lo8_toNat, hi8_toNat]; omega)

theorem lo8_wordOf (hi lo : Byte) : lo8 (wordOf hi lo) = lo :=
  BitVec.eq_of_toNat_eq (by rw [lo8_toNat, wordOf_toNat]; have := lo.isLt; omega)

theorem hi8_wordOf (hi lo : Byte) : hi8 (wordOf hi lo) = hi :=
  BitVec.eq_of_toNat_eq (by rw [hi8_toNat, wordOf_toNat]; have := lo.isLt; omega)

/-! Flags. -/

/-- `SetsZN` from the two flags as the flag lemmas give them. -/
theorem setsZN_of {r : Byte} {t : State} (hz : t.flag .z = (r == 0)) (hn : t.flag .n = r.msb) : SetsZN r t :=
  ⟨hz.trans rfl, by rw [hn]; simp [BitVec.msb_eq_getLsbD_last]⟩

theorem State.setsZN_setZN (s : State) (r : Byte) : SetsZN r (s.setZN r) :=
  setsZN_of (State.flag_setZN s r .z) (State.flag_setZN s r .n)

theorem State.flagsKept_setZN (s : State) (r : Byte) : FlagsKept s (s.setZN r) [.z, .n] := by
  intro f hf
  rw [State.flag_setZN]
  revert hf
  cases f <;> simp

theorem State.flagsKept_compare (s : State) (reg m : Byte) : FlagsKept s (s.compare reg m) [.c, .z, .n] := by
  intro f hf
  rw [State.flag_compare]
  revert hf
  cases f <;> simp

theorem State.flagsKept_addWithCarry (s : State) (m : Byte) : FlagsKept s (s.addWithCarry m) [.c, .v, .z, .n] := by
  intro f hf
  rw [State.flag_addWithCarry]
  revert hf
  cases f <;> simp

theorem State.flagsKept_shiftFlags (s : State) (r : Byte) (c : Bool) :
    FlagsKept s (s.shiftFlags r c) [.c, .z, .n] := by
  intro f hf
  rw [State.flag_shiftFlags]
  revert hf
  cases f <;> simp

theorem State.flagsKept_putFlag (s : State) (f : Flag) (on : Bool) : FlagsKept s (s.putFlag f on) [f] := by
  intro g hg
  rw [State.flag_putFlag, if_neg (show g ≠ f by simpa using hg)]
  split
  · subst g; simp
  · rfl

/-- Handler entry keeps every flag but I. -/
theorem State.flagsKept_enterHandler (s : State) (ret : Word) (pushedP : Byte) (vector : Word) :
    FlagsKept s (s.enterHandler ret pushedP vector) [.i] := by
  intro f hf
  rw [State.flag_enterHandler, if_neg (by simpa using hf)]

/-! Memory. -/

/-- Every byte reads as before where RAM and the configuration are as before. -/
theorem memoryKept_of {s t : State} (hr : t.ram = s.ram) (hc : t.cfg = s.cfg) : MemoryKept s t :=
  fun addr => State.read_congr hr hc addr

theorem Operand.value_eq_read {o : Operand} (h : ∀ b, o ≠ .imm b) (s : State) : o.value s = s.read (o.ea s) := by
  cases o <;> first | rfl | exact absurd rfl (h _)

/-- Two stack slots one to 255 apart are different. -/
theorem stackAddr_sub_ne (sp k : Byte) (h : k ≠ 0) : stackAddr sp ≠ stackAddr (sp - k) := by
  intro e
  have := congrArg BitVec.toNat (stackAddr_inj e)
  rw [BitVec.toNat_sub] at this
  exact h (BitVec.eq_of_toNat_eq (by have := sp.isLt; have := k.isLt; simp only [BitVec.ofNat_eq_ofNat, BitVec.toNat_ofNat]; omega))

/-- What a pushed word leaves on the stack, the high byte above the low one (45_control_flow.md R222). -/
theorem State.read_pushWord (s : State) (w : Word) :
    (s.pushWord w).read (stackAddr s.sp) = hi8 w ∧ (s.pushWord w).read (stackAddr (s.sp - 1)) = lo8 w ∧
      MemoryKeptOutside s (s.pushWord w) [stackAddr s.sp, stackAddr (s.sp - 1)] := by
  refine ⟨?_, State.read_push_same (s.push (hi8 w)) (lo8 w), ?_⟩
  · rw [State.pushWord, State.read_push_other (h := by exact stackAddr_sub_ne s.sp 1 (by decide)), State.read_push_same]
  · intro addr ha
    simp only [List.mem_cons, List.not_mem_nil, or_false, not_or] at ha
    rw [State.pushWord, State.read_push_other (h := by exact ha.2), State.read_push_other (h := ha.1)]

/-- What handler entry leaves on the stack: the return address, high byte first, and the copy of P
(45_control_flow.md R226, 60_exceptions.md R318). -/
theorem State.read_enterHandler (s : State) (ret : Word) (pushedP : Byte) (vector : Word) :
    (s.enterHandler ret pushedP vector).read (stackAddr s.sp) = hi8 ret ∧
      (s.enterHandler ret pushedP vector).read (stackAddr (s.sp - 1)) = lo8 ret ∧
      (s.enterHandler ret pushedP vector).read (stackAddr (s.sp - 2)) = pushedP ∧
      MemoryKeptOutside s (s.enterHandler ret pushedP vector)
        [stackAddr s.sp, stackAddr (s.sp - 1), stackAddr (s.sp - 2)] := by
  have hsp : (s.pushWord ret).sp = s.sp - 2 := by rw [State.pushWord_eq]
  have h0 : stackAddr s.sp ≠ stackAddr (s.sp - 2) := stackAddr_sub_ne s.sp 2 (by decide)
  have h1 : stackAddr (s.sp - 1) ≠ stackAddr (s.sp - 2) := by
    have h := stackAddr_sub_ne (s.sp - 1) 1 (by decide)
    rwa [BitVec.sub_sub, show (1 + 1 : Byte) = 2 from rfl] at h
  have hr : ∀ addr, (s.enterHandler ret pushedP vector).read addr = ((s.pushWord ret).push pushedP).read addr :=
    fun _ => rfl
  obtain ⟨hw0, hw1, hw⟩ := State.read_pushWord s ret
  refine ⟨?_, ?_, ?_, ?_⟩
  · rw [hr, State.read_push_other (h := by rw [hsp]; exact h0), hw0]
  · rw [hr, State.read_push_other (h := by rw [hsp]; exact h1), hw1]
  · rw [hr, ← hsp, State.read_push_same]
  · intro addr ha
    simp only [List.mem_cons, List.not_mem_nil, or_false, not_or] at ha
    rw [hr, State.read_push_other (h := by rw [hsp]; exact ha.2.2), hw addr (by simp only [List.mem_cons, List.not_mem_nil, or_false, not_or]; exact ⟨ha.1, ha.2.1⟩)]

end Sys2Proof.Machine
end

