-- ==== Sys2Proof/Laws/PerInstr.lean ====
section
/-! SUPPORT. A statement made per instruction: the encoding has the length its descriptor gives (30_encoding.md R104).
-/

namespace Sys2Proof.Laws.LengthOfTable

/-- The table has the opcode of a well-formed instruction, and its length is that of the encoding. -/
def Statement (i : Instr) : Prop :=
  i.wellFormed = true → ((encode i).head?.bind descriptor).map (fun d => d.length) = some (encode i).length

/-- The length is right for each opcode an opcode field may hold. -/
theorem of_opcodes {ops : List Byte} {n : Nat} (h : ops.all (fun op => (descriptor op).map (fun d => d.length) == some n) = true)
    {op : Byte} (hop : decide (op ∈ ops) = true) : (descriptor op).map (fun d => d.length) = some n := by
  have := List.all_eq_true.mp h op (of_decide_eq_true hop)
  simpa using this

theorem brk : Statement (.brk) := fun _ => rfl
theorem oraIndX (zp : Byte) : Statement (.oraIndX zp) := fun _ => rfl
theorem jam (op : Byte) : Statement (.jam op) := fun h => of_opcodes (ops := jamOpcodes) (n := 1) (by decide) h
theorem sloIndX (zp : Byte) : Statement (.sloIndX zp) := fun _ => rfl
theorem nopZp (op : Byte) (zp : Byte) : Statement (.nopZp op zp) := fun h => of_opcodes (ops := nopZpOpcodes) (n := 2) (by decide) h
theorem oraZp (zp : Byte) : Statement (.oraZp zp) := fun _ => rfl
theorem aslZp (zp : Byte) : Statement (.aslZp zp) := fun _ => rfl
theorem sloZp (zp : Byte) : Statement (.sloZp zp) := fun _ => rfl
theorem php : Statement (.php) := fun _ => rfl
theorem oraImm (imm : Byte) : Statement (.oraImm imm) := fun _ => rfl
theorem aslAcc : Statement (.aslAcc) := fun _ => rfl
theorem ancImm (op : Byte) (imm : Byte) : Statement (.ancImm op imm) := fun h => of_opcodes (ops := ancOpcodes) (n := 2) (by decide) h
theorem nopAbs (addr : Word) : Statement (.nopAbs addr) := fun _ => rfl
theorem oraAbs (addr : Word) : Statement (.oraAbs addr) := fun _ => rfl
theorem aslAbs (addr : Word) : Statement (.aslAbs addr) := fun _ => rfl
theorem sloAbs (addr : Word) : Statement (.sloAbs addr) := fun _ => rfl
theorem bpl (off : Byte) : Statement (.bpl off) := fun _ => rfl
theorem oraIndY (zp : Byte) : Statement (.oraIndY zp) := fun _ => rfl
theorem sloIndY (zp : Byte) : Statement (.sloIndY zp) := fun _ => rfl
theorem nopZpX (op : Byte) (zp : Byte) : Statement (.nopZpX op zp) := fun h => of_opcodes (ops := nopZpXOpcodes) (n := 2) (by decide) h
theorem oraZpX (zp : Byte) : Statement (.oraZpX zp) := fun _ => rfl
theorem aslZpX (zp : Byte) : Statement (.aslZpX zp) := fun _ => rfl
theorem sloZpX (zp : Byte) : Statement (.sloZpX zp) := fun _ => rfl
theorem clc : Statement (.clc) := fun _ => rfl
theorem oraAbsY (addr : Word) : Statement (.oraAbsY addr) := fun _ => rfl
theorem nopImplied (op : Byte) : Statement (.nopImplied op) := fun h => of_opcodes (ops := nopImpliedOpcodes) (n := 1) (by decide) h
theorem sloAbsY (addr : Word) : Statement (.sloAbsY addr) := fun _ => rfl
theorem nopAbsX (op : Byte) (addr : Word) : Statement (.nopAbsX op addr) := fun h => of_opcodes (ops := nopAbsXOpcodes) (n := 3) (by decide) h
theorem oraAbsX (addr : Word) : Statement (.oraAbsX addr) := fun _ => rfl
theorem aslAbsX (addr : Word) : Statement (.aslAbsX addr) := fun _ => rfl
theorem sloAbsX (addr : Word) : Statement (.sloAbsX addr) := fun _ => rfl
theorem jsrAbs (addr : Word) : Statement (.jsrAbs addr) := fun _ => rfl
theorem andIndX (zp : Byte) : Statement (.andIndX zp) := fun _ => rfl
theorem rlaIndX (zp : Byte) : Statement (.rlaIndX zp) := fun _ => rfl
theorem bitZp (zp : Byte) : Statement (.bitZp zp) := fun _ => rfl
theorem andZp (zp : Byte) : Statement (.andZp zp) := fun _ => rfl
theorem rolZp (zp : Byte) : Statement (.rolZp zp) := fun _ => rfl
theorem rlaZp (zp : Byte) : Statement (.rlaZp zp) := fun _ => rfl
theorem plp : Statement (.plp) := fun _ => rfl
theorem andImm (imm : Byte) : Statement (.andImm imm) := fun _ => rfl
theorem rolAcc : Statement (.rolAcc) := fun _ => rfl
theorem bitAbs (addr : Word) : Statement (.bitAbs addr) := fun _ => rfl
theorem andAbs (addr : Word) : Statement (.andAbs addr) := fun _ => rfl
theorem rolAbs (addr : Word) : Statement (.rolAbs addr) := fun _ => rfl
theorem rlaAbs (addr : Word) : Statement (.rlaAbs addr) := fun _ => rfl
theorem bmi (off : Byte) : Statement (.bmi off) := fun _ => rfl
theorem andIndY (zp : Byte) : Statement (.andIndY zp) := fun _ => rfl
theorem rlaIndY (zp : Byte) : Statement (.rlaIndY zp) := fun _ => rfl
theorem andZpX (zp : Byte) : Statement (.andZpX zp) := fun _ => rfl
theorem rolZpX (zp : Byte) : Statement (.rolZpX zp) := fun _ => rfl
theorem rlaZpX (zp : Byte) : Statement (.rlaZpX zp) := fun _ => rfl
theorem sec : Statement (.sec) := fun _ => rfl
theorem andAbsY (addr : Word) : Statement (.andAbsY addr) := fun _ => rfl
theorem rlaAbsY (addr : Word) : Statement (.rlaAbsY addr) := fun _ => rfl
theorem andAbsX (addr : Word) : Statement (.andAbsX addr) := fun _ => rfl
theorem rolAbsX (addr : Word) : Statement (.rolAbsX addr) := fun _ => rfl
theorem rlaAbsX (addr : Word) : Statement (.rlaAbsX addr) := fun _ => rfl
theorem rti : Statement (.rti) := fun _ => rfl
theorem eorIndX (zp : Byte) : Statement (.eorIndX zp) := fun _ => rfl
theorem sreIndX (zp : Byte) : Statement (.sreIndX zp) := fun _ => rfl
theorem eorZp (zp : Byte) : Statement (.eorZp zp) := fun _ => rfl
theorem lsrZp (zp : Byte) : Statement (.lsrZp zp) := fun _ => rfl
theorem sreZp (zp : Byte) : Statement (.sreZp zp) := fun _ => rfl
theorem pha : Statement (.pha) := fun _ => rfl
theorem eorImm (imm : Byte) : Statement (.eorImm imm) := fun _ => rfl
theorem lsrAcc : Statement (.lsrAcc) := fun _ => rfl
theorem alrImm (imm : Byte) : Statement (.alrImm imm) := fun _ => rfl
theorem jmpAbs (addr : Word) : Statement (.jmpAbs addr) := fun _ => rfl
theorem eorAbs (addr : Word) : Statement (.eorAbs addr) := fun _ => rfl
theorem lsrAbs (addr : Word) : Statement (.lsrAbs addr) := fun _ => rfl
theorem sreAbs (addr : Word) : Statement (.sreAbs addr) := fun _ => rfl
theorem bvc (off : Byte) : Statement (.bvc off) := fun _ => rfl
theorem eorIndY (zp : Byte) : Statement (.eorIndY zp) := fun _ => rfl
theorem sreIndY (zp : Byte) : Statement (.sreIndY zp) := fun _ => rfl
theorem eorZpX (zp : Byte) : Statement (.eorZpX zp) := fun _ => rfl
theorem lsrZpX (zp : Byte) : Statement (.lsrZpX zp) := fun _ => rfl
theorem sreZpX (zp : Byte) : Statement (.sreZpX zp) := fun _ => rfl
theorem cli : Statement (.cli) := fun _ => rfl
theorem eorAbsY (addr : Word) : Statement (.eorAbsY addr) := fun _ => rfl
theorem sreAbsY (addr : Word) : Statement (.sreAbsY addr) := fun _ => rfl
theorem eorAbsX (addr : Word) : Statement (.eorAbsX addr) := fun _ => rfl
theorem lsrAbsX (addr : Word) : Statement (.lsrAbsX addr) := fun _ => rfl
theorem sreAbsX (addr : Word) : Statement (.sreAbsX addr) := fun _ => rfl
theorem rts : Statement (.rts) := fun _ => rfl
theorem adcIndX (zp : Byte) : Statement (.adcIndX zp) := fun _ => rfl
theorem rraIndX (zp : Byte) : Statement (.rraIndX zp) := fun _ => rfl
theorem adcZp (zp : Byte) : Statement (.adcZp zp) := fun _ => rfl
theorem rorZp (zp : Byte) : Statement (.rorZp zp) := fun _ => rfl
theorem rraZp (zp : Byte) : Statement (.rraZp zp) := fun _ => rfl
theorem pla : Statement (.pla) := fun _ => rfl
theorem adcImm (imm : Byte) : Statement (.adcImm imm) := fun _ => rfl
theorem rorAcc : Statement (.rorAcc) := fun _ => rfl
theorem arrImm (imm : Byte) : Statement (.arrImm imm) := fun _ => rfl
theorem jmpInd (ptr : Word) : Statement (.jmpInd ptr) := fun _ => rfl
theorem adcAbs (addr : Word) : Statement (.adcAbs addr) := fun _ => rfl
theorem rorAbs (addr : Word) : Statement (.rorAbs addr) := fun _ => rfl
theorem rraAbs (addr : Word) : Statement (.rraAbs addr) := fun _ => rfl
theorem bvs (off : Byte) : Statement (.bvs off) := fun _ => rfl
theorem adcIndY (zp : Byte) : Statement (.adcIndY zp) := fun _ => rfl
theorem rraIndY (zp : Byte) : Statement (.rraIndY zp) := fun _ => rfl
theorem adcZpX (zp : Byte) : Statement (.adcZpX zp) := fun _ => rfl
theorem rorZpX (zp : Byte) : Statement (.rorZpX zp) := fun _ => rfl
theorem rraZpX (zp : Byte) : Statement (.rraZpX zp) := fun _ => rfl
theorem sei : Statement (.sei) := fun _ => rfl
theorem adcAbsY (addr : Word) : Statement (.adcAbsY addr) := fun _ => rfl
theorem rraAbsY (addr : Word) : Statement (.rraAbsY addr) := fun _ => rfl
theorem adcAbsX (addr : Word) : Statement (.adcAbsX addr) := fun _ => rfl
theorem rorAbsX (addr : Word) : Statement (.rorAbsX addr) := fun _ => rfl
theorem rraAbsX (addr : Word) : Statement (.rraAbsX addr) := fun _ => rfl
theorem nopImm (op : Byte) (imm : Byte) : Statement (.nopImm op imm) := fun h => of_opcodes (ops := nopImmOpcodes) (n := 2) (by decide) h
theorem staIndX (zp : Byte) : Statement (.staIndX zp) := fun _ => rfl
theorem saxIndX (zp : Byte) : Statement (.saxIndX zp) := fun _ => rfl
theorem styZp (zp : Byte) : Statement (.styZp zp) := fun _ => rfl
theorem staZp (zp : Byte) : Statement (.staZp zp) := fun _ => rfl
theorem stxZp (zp : Byte) : Statement (.stxZp zp) := fun _ => rfl
theorem saxZp (zp : Byte) : Statement (.saxZp zp) := fun _ => rfl
theorem dey : Statement (.dey) := fun _ => rfl
theorem txa : Statement (.txa) := fun _ => rfl
theorem aneImm (imm : Byte) : Statement (.aneImm imm) := fun _ => rfl
theorem styAbs (addr : Word) : Statement (.styAbs addr) := fun _ => rfl
theorem staAbs (addr : Word) : Statement (.staAbs addr) := fun _ => rfl
theorem stxAbs (addr : Word) : Statement (.stxAbs addr) := fun _ => rfl
theorem saxAbs (addr : Word) : Statement (.saxAbs addr) := fun _ => rfl
theorem bcc (off : Byte) : Statement (.bcc off) := fun _ => rfl
theorem staIndY (zp : Byte) : Statement (.staIndY zp) := fun _ => rfl
theorem shaIndY (zp : Byte) : Statement (.shaIndY zp) := fun _ => rfl
theorem styZpX (zp : Byte) : Statement (.styZpX zp) := fun _ => rfl
theorem staZpX (zp : Byte) : Statement (.staZpX zp) := fun _ => rfl
theorem stxZpY (zp : Byte) : Statement (.stxZpY zp) := fun _ => rfl
theorem saxZpY (zp : Byte) : Statement (.saxZpY zp) := fun _ => rfl
theorem tya : Statement (.tya) := fun _ => rfl
theorem staAbsY (addr : Word) : Statement (.staAbsY addr) := fun _ => rfl
theorem txs : Statement (.txs) := fun _ => rfl
theorem tasAbsY (addr : Word) : Statement (.tasAbsY addr) := fun _ => rfl
theorem shyAbsX (addr : Word) : Statement (.shyAbsX addr) := fun _ => rfl
theorem staAbsX (addr : Word) : Statement (.staAbsX addr) := fun _ => rfl
theorem shxAbsY (addr : Word) : Statement (.shxAbsY addr) := fun _ => rfl
theorem shaAbsY (addr : Word) : Statement (.shaAbsY addr) := fun _ => rfl
theorem ldyImm (imm : Byte) : Statement (.ldyImm imm) := fun _ => rfl
theorem ldaIndX (zp : Byte) : Statement (.ldaIndX zp) := fun _ => rfl
theorem ldxImm (imm : Byte) : Statement (.ldxImm imm) := fun _ => rfl
theorem laxIndX (zp : Byte) : Statement (.laxIndX zp) := fun _ => rfl
theorem ldyZp (zp : Byte) : Statement (.ldyZp zp) := fun _ => rfl
theorem ldaZp (zp : Byte) : Statement (.ldaZp zp) := fun _ => rfl
theorem ldxZp (zp : Byte) : Statement (.ldxZp zp) := fun _ => rfl
theorem laxZp (zp : Byte) : Statement (.laxZp zp) := fun _ => rfl
theorem tay : Statement (.tay) := fun _ => rfl
theorem ldaImm (imm : Byte) : Statement (.ldaImm imm) := fun _ => rfl
theorem tax : Statement (.tax) := fun _ => rfl
theorem lxaImm (imm : Byte) : Statement (.lxaImm imm) := fun _ => rfl
theorem ldyAbs (addr : Word) : Statement (.ldyAbs addr) := fun _ => rfl
theorem ldaAbs (addr : Word) : Statement (.ldaAbs addr) := fun _ => rfl
theorem ldxAbs (addr : Word) : Statement (.ldxAbs addr) := fun _ => rfl
theorem laxAbs (addr : Word) : Statement (.laxAbs addr) := fun _ => rfl
theorem bcs (off : Byte) : Statement (.bcs off) := fun _ => rfl
theorem ldaIndY (zp : Byte) : Statement (.ldaIndY zp) := fun _ => rfl
theorem laxIndY (zp : Byte) : Statement (.laxIndY zp) := fun _ => rfl
theorem ldyZpX (zp : Byte) : Statement (.ldyZpX zp) := fun _ => rfl
theorem ldaZpX (zp : Byte) : Statement (.ldaZpX zp) := fun _ => rfl
theorem ldxZpY (zp : Byte) : Statement (.ldxZpY zp) := fun _ => rfl
theorem laxZpY (zp : Byte) : Statement (.laxZpY zp) := fun _ => rfl
theorem clv : Statement (.clv) := fun _ => rfl
theorem ldaAbsY (addr : Word) : Statement (.ldaAbsY addr) := fun _ => rfl
theorem tsx : Statement (.tsx) := fun _ => rfl
theorem lasAbsY (addr : Word) : Statement (.lasAbsY addr) := fun _ => rfl
theorem ldyAbsX (addr : Word) : Statement (.ldyAbsX addr) := fun _ => rfl
theorem ldaAbsX (addr : Word) : Statement (.ldaAbsX addr) := fun _ => rfl
theorem ldxAbsY (addr : Word) : Statement (.ldxAbsY addr) := fun _ => rfl
theorem laxAbsY (addr : Word) : Statement (.laxAbsY addr) := fun _ => rfl
theorem cpyImm (imm : Byte) : Statement (.cpyImm imm) := fun _ => rfl
theorem cmpIndX (zp : Byte) : Statement (.cmpIndX zp) := fun _ => rfl
theorem dcpIndX (zp : Byte) : Statement (.dcpIndX zp) := fun _ => rfl
theorem cpyZp (zp : Byte) : Statement (.cpyZp zp) := fun _ => rfl
theorem cmpZp (zp : Byte) : Statement (.cmpZp zp) := fun _ => rfl
theorem decZp (zp : Byte) : Statement (.decZp zp) := fun _ => rfl
theorem dcpZp (zp : Byte) : Statement (.dcpZp zp) := fun _ => rfl
theorem iny : Statement (.iny) := fun _ => rfl
theorem cmpImm (imm : Byte) : Statement (.cmpImm imm) := fun _ => rfl
theorem dex : Statement (.dex) := fun _ => rfl
theorem sbxImm (imm : Byte) : Statement (.sbxImm imm) := fun _ => rfl
theorem cpyAbs (addr : Word) : Statement (.cpyAbs addr) := fun _ => rfl
theorem cmpAbs (addr : Word) : Statement (.cmpAbs addr) := fun _ => rfl
theorem decAbs (addr : Word) : Statement (.decAbs addr) := fun _ => rfl
theorem dcpAbs (addr : Word) : Statement (.dcpAbs addr) := fun _ => rfl
theorem bne (off : Byte) : Statement (.bne off) := fun _ => rfl
theorem cmpIndY (zp : Byte) : Statement (.cmpIndY zp) := fun _ => rfl
theorem dcpIndY (zp : Byte) : Statement (.dcpIndY zp) := fun _ => rfl
theorem cmpZpX (zp : Byte) : Statement (.cmpZpX zp) := fun _ => rfl
theorem decZpX (zp : Byte) : Statement (.decZpX zp) := fun _ => rfl
theorem dcpZpX (zp : Byte) : Statement (.dcpZpX zp) := fun _ => rfl
theorem cld : Statement (.cld) := fun _ => rfl
theorem cmpAbsY (addr : Word) : Statement (.cmpAbsY addr) := fun _ => rfl
theorem dcpAbsY (addr : Word) : Statement (.dcpAbsY addr) := fun _ => rfl
theorem cmpAbsX (addr : Word) : Statement (.cmpAbsX addr) := fun _ => rfl
theorem decAbsX (addr : Word) : Statement (.decAbsX addr) := fun _ => rfl
theorem dcpAbsX (addr : Word) : Statement (.dcpAbsX addr) := fun _ => rfl
theorem cpxImm (imm : Byte) : Statement (.cpxImm imm) := fun _ => rfl
theorem sbcIndX (zp : Byte) : Statement (.sbcIndX zp) := fun _ => rfl
theorem isbIndX (zp : Byte) : Statement (.isbIndX zp) := fun _ => rfl
theorem cpxZp (zp : Byte) : Statement (.cpxZp zp) := fun _ => rfl
theorem sbcZp (zp : Byte) : Statement (.sbcZp zp) := fun _ => rfl
theorem incZp (zp : Byte) : Statement (.incZp zp) := fun _ => rfl
theorem isbZp (zp : Byte) : Statement (.isbZp zp) := fun _ => rfl
theorem inx : Statement (.inx) := fun _ => rfl
theorem sbcImm (imm : Byte) : Statement (.sbcImm imm) := fun _ => rfl
theorem nop : Statement (.nop) := fun _ => rfl
theorem usbcImm (imm : Byte) : Statement (.usbcImm imm) := fun _ => rfl
theorem cpxAbs (addr : Word) : Statement (.cpxAbs addr) := fun _ => rfl
theorem sbcAbs (addr : Word) : Statement (.sbcAbs addr) := fun _ => rfl
theorem incAbs (addr : Word) : Statement (.incAbs addr) := fun _ => rfl
theorem isbAbs (addr : Word) : Statement (.isbAbs addr) := fun _ => rfl
theorem beq (off : Byte) : Statement (.beq off) := fun _ => rfl
theorem sbcIndY (zp : Byte) : Statement (.sbcIndY zp) := fun _ => rfl
theorem isbIndY (zp : Byte) : Statement (.isbIndY zp) := fun _ => rfl
theorem sbcZpX (zp : Byte) : Statement (.sbcZpX zp) := fun _ => rfl
theorem incZpX (zp : Byte) : Statement (.incZpX zp) := fun _ => rfl
theorem isbZpX (zp : Byte) : Statement (.isbZpX zp) := fun _ => rfl
theorem sed : Statement (.sed) := fun _ => rfl
theorem sbcAbsY (addr : Word) : Statement (.sbcAbsY addr) := fun _ => rfl
theorem isbAbsY (addr : Word) : Statement (.isbAbsY addr) := fun _ => rfl
theorem sbcAbsX (addr : Word) : Statement (.sbcAbsX addr) := fun _ => rfl
theorem incAbsX (addr : Word) : Statement (.incAbsX addr) := fun _ => rfl
theorem isbAbsX (addr : Word) : Statement (.isbAbsX addr) := fun _ => rfl

end Sys2Proof.Laws.LengthOfTable
end

