-- ==== Sys2Proof/Laws/Shapes.lean ====
section
/-! SUPPORT. Everything an instruction can do: every meaning has one of thirteen shapes, each over a shared operation and
a handler from a short list. A proof about every instruction cites `exec_shape` and splits the shapes and not the arms. -/

namespace Sys2Proof.Machine

/-- What the implied and accumulator instructions do before PC moves past the opcode. -/
inductive ImpliedHandler : (State → State) → Prop where
  | pushP : ImpliedHandler pushP
  | shiftAAslStep : ImpliedHandler (shiftA aslStep)
  | clearC : ImpliedHandler (fun t => t.putFlag .c false)
  | nothing : ImpliedHandler id
  | pullP : ImpliedHandler pullP
  | shiftARolStep : ImpliedHandler (shiftA rolStep)
  | setC : ImpliedHandler (fun t => t.putFlag .c true)
  | pushA : ImpliedHandler pushA
  | shiftALsrStep : ImpliedHandler (shiftA lsrStep)
  | clearI : ImpliedHandler (fun t => t.putFlag .i false)
  | pullA : ImpliedHandler pullA
  | shiftARorStep : ImpliedHandler (shiftA rorStep)
  | setI : ImpliedHandler (fun t => t.putFlag .i true)
  | decrementY : ImpliedHandler decrementY
  | transferXA : ImpliedHandler transferXA
  | transferYA : ImpliedHandler transferYA
  | transferXS : ImpliedHandler transferXS
  | transferAY : ImpliedHandler transferAY
  | transferAX : ImpliedHandler transferAX
  | clearV : ImpliedHandler (fun t => t.putFlag .v false)
  | transferSX : ImpliedHandler transferSX
  | incrementY : ImpliedHandler incrementY
  | decrementX : ImpliedHandler decrementX
  | clearD : ImpliedHandler (fun t => t.putFlag .d false)
  | incrementX : ImpliedHandler incrementX
  | setD : ImpliedHandler (fun t => t.putFlag .d true)

/-- What the instructions that read their operand do with it. -/
inductive ReadHandler : (Byte → State → State) → Prop where
  | orA : ReadHandler Machine.orA
  | ignoreOperand : ReadHandler Machine.ignoreOperand
  | andCarry : ReadHandler Machine.andCarry
  | andA : ReadHandler Machine.andA
  | testBits : ReadHandler Machine.testBits
  | xorA : ReadHandler Machine.xorA
  | andShift : ReadHandler Machine.andShift
  | addA : ReadHandler Machine.addA
  | andRotate : ReadHandler Machine.andRotate
  | loadY : ReadHandler Machine.loadY
  | loadA : ReadHandler Machine.loadA
  | loadX : ReadHandler Machine.loadX
  | loadAX : ReadHandler Machine.loadAX
  | loadAXS : ReadHandler Machine.loadAXS
  | compareY : ReadHandler Machine.compareY
  | compareA : ReadHandler Machine.compareA
  | subtractX : ReadHandler Machine.subtractX
  | compareX : ReadHandler Machine.compareX
  | subtractA : ReadHandler Machine.subtractA

/-- The byte a read-modify-write instruction writes, and what it does after the write. -/
inductive ModifyHandler : (Byte → Bool → Byte × Bool) → (Byte → Bool → State → State) → Prop where
  | aslStepShiftThenOr : ModifyHandler aslStep shiftThenOr
  | aslStepSetShifted : ModifyHandler aslStep setShifted
  | rolStepRotateThenAnd : ModifyHandler rolStep rotateThenAnd
  | rolStepSetShifted : ModifyHandler rolStep setShifted
  | lsrStepShiftThenXor : ModifyHandler lsrStep shiftThenXor
  | lsrStepSetShifted : ModifyHandler lsrStep setShifted
  | rorStepRotateThenAdd : ModifyHandler rorStep rotateThenAdd
  | rorStepSetShifted : ModifyHandler rorStep setShifted
  | decrementCompareCounted : ModifyHandler decrement compareCounted
  | decrementSetCounted : ModifyHandler decrement setCounted
  | incrementSubtractCounted : ModifyHandler increment subtractCounted
  | incrementSetCounted : ModifyHandler increment setCounted

/-- The byte a store writes. -/
inductive StoredValue : (State → Byte) → Prop where
  | regA : StoredValue State.a
  | regX : StoredValue State.x
  | regY : StoredValue State.y
  | regAX : StoredValue (fun s => s.a &&& s.x)

/-- The condition of a branch. -/
inductive BranchCondition : (State → Bool) → Prop where
  | isSet (f : Flag) : BranchCondition (fun s => s.flag f)
  | isClear (f : Flag) : BranchCondition (fun s => !s.flag f)

/-- The shapes a meaning can have, each for every state at once. -/
inductive ExecShape (i : Instr) : Prop where
  | implied {h : State → State} (hh : ImpliedHandler h) (he : ∀ s, exec i s = runImplied h s)
  | read {h : Byte → State → State} {o : Operand} (hh : ReadHandler h) (he : ∀ s, exec i s = runRead h o s)
  | store {v : State → Byte} {o : Operand} (hv : StoredValue v) (he : ∀ s, exec i s = runStore (opcodeOf i) o (v s) s)
  | modify {f : Byte → Bool → Byte × Bool} {h : Byte → Bool → State → State} {o : Operand} (hh : ModifyHandler f h)
      (he : ∀ s, exec i s = runModify (opcodeOf i) f h o s)
  | branch {c : State → Bool} {off : Byte} (hc : BranchCondition c) (he : ∀ s, exec i s = runBranch (c s) off s)
  | jump {target : Word} (he : ∀ s, exec i s = .next (s.setPC target))
  | jumpThrough {ptr : Word} (he : ∀ s, exec i s = .next (s.setPC (s.jmpIndirectTarget ptr)))
  | call {target : Word} (he : ∀ s, exec i s = .next ((s.pushWord (s.pc + 2)).setPC target))
  | ret (he : ∀ s, exec i s = .next (s.popWord.2.setPC (s.popWord.1 + 1)))
  | breakTo (he : ∀ s, exec i s = .next (s.enterHandler (s.pc + 2) s.pushedByBreak irqVector))
  | fromHandler (he : ∀ s, exec i s = .next s.returnFromHandler)
  | fault (he : ∀ s, exec i s = .next (s.takeFault .unmodelledOpcode (opcodeOf i)))
  | jam (he : ∀ s, exec i s = .next (s.takeJam (opcodeOf i)))

/-- Every instruction has one of the shapes. -/
theorem exec_shape (i : Instr) : ExecShape i := by
  cases i with
  | brk => exact .breakTo (fun _ => rfl)
  | oraIndX _ => exact .read .orA (fun _ => rfl)
  | jam _ => exact .jam (fun _ => rfl)
  | sloIndX _ => exact .modify .aslStepShiftThenOr (fun _ => rfl)
  | nopZp _ _ => exact .read .ignoreOperand (fun _ => rfl)
  | oraZp _ => exact .read .orA (fun _ => rfl)
  | aslZp _ => exact .modify .aslStepSetShifted (fun _ => rfl)
  | sloZp _ => exact .modify .aslStepShiftThenOr (fun _ => rfl)
  | php => exact .implied .pushP (fun _ => rfl)
  | oraImm _ => exact .read .orA (fun _ => rfl)
  | aslAcc => exact .implied .shiftAAslStep (fun _ => rfl)
  | ancImm _ _ => exact .read .andCarry (fun _ => rfl)
  | nopAbs _ => exact .read .ignoreOperand (fun _ => rfl)
  | oraAbs _ => exact .read .orA (fun _ => rfl)
  | aslAbs _ => exact .modify .aslStepSetShifted (fun _ => rfl)
  | sloAbs _ => exact .modify .aslStepShiftThenOr (fun _ => rfl)
  | bpl _ => exact .branch (.isClear .n) (fun _ => rfl)
  | oraIndY _ => exact .read .orA (fun _ => rfl)
  | sloIndY _ => exact .modify .aslStepShiftThenOr (fun _ => rfl)
  | nopZpX _ _ => exact .read .ignoreOperand (fun _ => rfl)
  | oraZpX _ => exact .read .orA (fun _ => rfl)
  | aslZpX _ => exact .modify .aslStepSetShifted (fun _ => rfl)
  | sloZpX _ => exact .modify .aslStepShiftThenOr (fun _ => rfl)
  | clc => exact .implied .clearC (fun _ => rfl)
  | oraAbsY _ => exact .read .orA (fun _ => rfl)
  | nopImplied _ => exact .implied .nothing (fun _ => rfl)
  | sloAbsY _ => exact .modify .aslStepShiftThenOr (fun _ => rfl)
  | nopAbsX _ _ => exact .read .ignoreOperand (fun _ => rfl)
  | oraAbsX _ => exact .read .orA (fun _ => rfl)
  | aslAbsX _ => exact .modify .aslStepSetShifted (fun _ => rfl)
  | sloAbsX _ => exact .modify .aslStepShiftThenOr (fun _ => rfl)
  | jsrAbs _ => exact .call (fun _ => rfl)
  | andIndX _ => exact .read .andA (fun _ => rfl)
  | rlaIndX _ => exact .modify .rolStepRotateThenAnd (fun _ => rfl)
  | bitZp _ => exact .read .testBits (fun _ => rfl)
  | andZp _ => exact .read .andA (fun _ => rfl)
  | rolZp _ => exact .modify .rolStepSetShifted (fun _ => rfl)
  | rlaZp _ => exact .modify .rolStepRotateThenAnd (fun _ => rfl)
  | plp => exact .implied .pullP (fun _ => rfl)
  | andImm _ => exact .read .andA (fun _ => rfl)
  | rolAcc => exact .implied .shiftARolStep (fun _ => rfl)
  | bitAbs _ => exact .read .testBits (fun _ => rfl)
  | andAbs _ => exact .read .andA (fun _ => rfl)
  | rolAbs _ => exact .modify .rolStepSetShifted (fun _ => rfl)
  | rlaAbs _ => exact .modify .rolStepRotateThenAnd (fun _ => rfl)
  | bmi _ => exact .branch (.isSet .n) (fun _ => rfl)
  | andIndY _ => exact .read .andA (fun _ => rfl)
  | rlaIndY _ => exact .modify .rolStepRotateThenAnd (fun _ => rfl)
  | andZpX _ => exact .read .andA (fun _ => rfl)
  | rolZpX _ => exact .modify .rolStepSetShifted (fun _ => rfl)
  | rlaZpX _ => exact .modify .rolStepRotateThenAnd (fun _ => rfl)
  | sec => exact .implied .setC (fun _ => rfl)
  | andAbsY _ => exact .read .andA (fun _ => rfl)
  | rlaAbsY _ => exact .modify .rolStepRotateThenAnd (fun _ => rfl)
  | andAbsX _ => exact .read .andA (fun _ => rfl)
  | rolAbsX _ => exact .modify .rolStepSetShifted (fun _ => rfl)
  | rlaAbsX _ => exact .modify .rolStepRotateThenAnd (fun _ => rfl)
  | rti => exact .fromHandler (fun _ => rfl)
  | eorIndX _ => exact .read .xorA (fun _ => rfl)
  | sreIndX _ => exact .modify .lsrStepShiftThenXor (fun _ => rfl)
  | eorZp _ => exact .read .xorA (fun _ => rfl)
  | lsrZp _ => exact .modify .lsrStepSetShifted (fun _ => rfl)
  | sreZp _ => exact .modify .lsrStepShiftThenXor (fun _ => rfl)
  | pha => exact .implied .pushA (fun _ => rfl)
  | eorImm _ => exact .read .xorA (fun _ => rfl)
  | lsrAcc => exact .implied .shiftALsrStep (fun _ => rfl)
  | alrImm _ => exact .read .andShift (fun _ => rfl)
  | jmpAbs _ => exact .jump (fun _ => rfl)
  | eorAbs _ => exact .read .xorA (fun _ => rfl)
  | lsrAbs _ => exact .modify .lsrStepSetShifted (fun _ => rfl)
  | sreAbs _ => exact .modify .lsrStepShiftThenXor (fun _ => rfl)
  | bvc _ => exact .branch (.isClear .v) (fun _ => rfl)
  | eorIndY _ => exact .read .xorA (fun _ => rfl)
  | sreIndY _ => exact .modify .lsrStepShiftThenXor (fun _ => rfl)
  | eorZpX _ => exact .read .xorA (fun _ => rfl)
  | lsrZpX _ => exact .modify .lsrStepSetShifted (fun _ => rfl)
  | sreZpX _ => exact .modify .lsrStepShiftThenXor (fun _ => rfl)
  | cli => exact .implied .clearI (fun _ => rfl)
  | eorAbsY _ => exact .read .xorA (fun _ => rfl)
  | sreAbsY _ => exact .modify .lsrStepShiftThenXor (fun _ => rfl)
  | eorAbsX _ => exact .read .xorA (fun _ => rfl)
  | lsrAbsX _ => exact .modify .lsrStepSetShifted (fun _ => rfl)
  | sreAbsX _ => exact .modify .lsrStepShiftThenXor (fun _ => rfl)
  | rts => exact .ret (fun _ => rfl)
  | adcIndX _ => exact .read .addA (fun _ => rfl)
  | rraIndX _ => exact .modify .rorStepRotateThenAdd (fun _ => rfl)
  | adcZp _ => exact .read .addA (fun _ => rfl)
  | rorZp _ => exact .modify .rorStepSetShifted (fun _ => rfl)
  | rraZp _ => exact .modify .rorStepRotateThenAdd (fun _ => rfl)
  | pla => exact .implied .pullA (fun _ => rfl)
  | adcImm _ => exact .read .addA (fun _ => rfl)
  | rorAcc => exact .implied .shiftARorStep (fun _ => rfl)
  | arrImm _ => exact .read .andRotate (fun _ => rfl)
  | jmpInd _ => exact .jumpThrough (fun _ => rfl)
  | adcAbs _ => exact .read .addA (fun _ => rfl)
  | rorAbs _ => exact .modify .rorStepSetShifted (fun _ => rfl)
  | rraAbs _ => exact .modify .rorStepRotateThenAdd (fun _ => rfl)
  | bvs _ => exact .branch (.isSet .v) (fun _ => rfl)
  | adcIndY _ => exact .read .addA (fun _ => rfl)
  | rraIndY _ => exact .modify .rorStepRotateThenAdd (fun _ => rfl)
  | adcZpX _ => exact .read .addA (fun _ => rfl)
  | rorZpX _ => exact .modify .rorStepSetShifted (fun _ => rfl)
  | rraZpX _ => exact .modify .rorStepRotateThenAdd (fun _ => rfl)
  | sei => exact .implied .setI (fun _ => rfl)
  | adcAbsY _ => exact .read .addA (fun _ => rfl)
  | rraAbsY _ => exact .modify .rorStepRotateThenAdd (fun _ => rfl)
  | adcAbsX _ => exact .read .addA (fun _ => rfl)
  | rorAbsX _ => exact .modify .rorStepSetShifted (fun _ => rfl)
  | rraAbsX _ => exact .modify .rorStepRotateThenAdd (fun _ => rfl)
  | nopImm _ _ => exact .read .ignoreOperand (fun _ => rfl)
  | staIndX _ => exact .store .regA (fun _ => rfl)
  | saxIndX _ => exact .store .regAX (fun _ => rfl)
  | styZp _ => exact .store .regY (fun _ => rfl)
  | staZp _ => exact .store .regA (fun _ => rfl)
  | stxZp _ => exact .store .regX (fun _ => rfl)
  | saxZp _ => exact .store .regAX (fun _ => rfl)
  | dey => exact .implied .decrementY (fun _ => rfl)
  | txa => exact .implied .transferXA (fun _ => rfl)
  | aneImm _ => exact .fault (fun _ => rfl)
  | styAbs _ => exact .store .regY (fun _ => rfl)
  | staAbs _ => exact .store .regA (fun _ => rfl)
  | stxAbs _ => exact .store .regX (fun _ => rfl)
  | saxAbs _ => exact .store .regAX (fun _ => rfl)
  | bcc _ => exact .branch (.isClear .c) (fun _ => rfl)
  | staIndY _ => exact .store .regA (fun _ => rfl)
  | shaIndY _ => exact .fault (fun _ => rfl)
  | styZpX _ => exact .store .regY (fun _ => rfl)
  | staZpX _ => exact .store .regA (fun _ => rfl)
  | stxZpY _ => exact .store .regX (fun _ => rfl)
  | saxZpY _ => exact .store .regAX (fun _ => rfl)
  | tya => exact .implied .transferYA (fun _ => rfl)
  | staAbsY _ => exact .store .regA (fun _ => rfl)
  | txs => exact .implied .transferXS (fun _ => rfl)
  | tasAbsY _ => exact .fault (fun _ => rfl)
  | shyAbsX _ => exact .fault (fun _ => rfl)
  | staAbsX _ => exact .store .regA (fun _ => rfl)
  | shxAbsY _ => exact .fault (fun _ => rfl)
  | shaAbsY _ => exact .fault (fun _ => rfl)
  | ldyImm _ => exact .read .loadY (fun _ => rfl)
  | ldaIndX _ => exact .read .loadA (fun _ => rfl)
  | ldxImm _ => exact .read .loadX (fun _ => rfl)
  | laxIndX _ => exact .read .loadAX (fun _ => rfl)
  | ldyZp _ => exact .read .loadY (fun _ => rfl)
  | ldaZp _ => exact .read .loadA (fun _ => rfl)
  | ldxZp _ => exact .read .loadX (fun _ => rfl)
  | laxZp _ => exact .read .loadAX (fun _ => rfl)
  | tay => exact .implied .transferAY (fun _ => rfl)
  | ldaImm _ => exact .read .loadA (fun _ => rfl)
  | tax => exact .implied .transferAX (fun _ => rfl)
  | lxaImm _ => exact .fault (fun _ => rfl)
  | ldyAbs _ => exact .read .loadY (fun _ => rfl)
  | ldaAbs _ => exact .read .loadA (fun _ => rfl)
  | ldxAbs _ => exact .read .loadX (fun _ => rfl)
  | laxAbs _ => exact .read .loadAX (fun _ => rfl)
  | bcs _ => exact .branch (.isSet .c) (fun _ => rfl)
  | ldaIndY _ => exact .read .loadA (fun _ => rfl)
  | laxIndY _ => exact .read .loadAX (fun _ => rfl)
  | ldyZpX _ => exact .read .loadY (fun _ => rfl)
  | ldaZpX _ => exact .read .loadA (fun _ => rfl)
  | ldxZpY _ => exact .read .loadX (fun _ => rfl)
  | laxZpY _ => exact .read .loadAX (fun _ => rfl)
  | clv => exact .implied .clearV (fun _ => rfl)
  | ldaAbsY _ => exact .read .loadA (fun _ => rfl)
  | tsx => exact .implied .transferSX (fun _ => rfl)
  | lasAbsY _ => exact .read .loadAXS (fun _ => rfl)
  | ldyAbsX _ => exact .read .loadY (fun _ => rfl)
  | ldaAbsX _ => exact .read .loadA (fun _ => rfl)
  | ldxAbsY _ => exact .read .loadX (fun _ => rfl)
  | laxAbsY _ => exact .read .loadAX (fun _ => rfl)
  | cpyImm _ => exact .read .compareY (fun _ => rfl)
  | cmpIndX _ => exact .read .compareA (fun _ => rfl)
  | dcpIndX _ => exact .modify .decrementCompareCounted (fun _ => rfl)
  | cpyZp _ => exact .read .compareY (fun _ => rfl)
  | cmpZp _ => exact .read .compareA (fun _ => rfl)
  | decZp _ => exact .modify .decrementSetCounted (fun _ => rfl)
  | dcpZp _ => exact .modify .decrementCompareCounted (fun _ => rfl)
  | iny => exact .implied .incrementY (fun _ => rfl)
  | cmpImm _ => exact .read .compareA (fun _ => rfl)
  | dex => exact .implied .decrementX (fun _ => rfl)
  | sbxImm _ => exact .read .subtractX (fun _ => rfl)
  | cpyAbs _ => exact .read .compareY (fun _ => rfl)
  | cmpAbs _ => exact .read .compareA (fun _ => rfl)
  | decAbs _ => exact .modify .decrementSetCounted (fun _ => rfl)
  | dcpAbs _ => exact .modify .decrementCompareCounted (fun _ => rfl)
  | bne _ => exact .branch (.isClear .z) (fun _ => rfl)
  | cmpIndY _ => exact .read .compareA (fun _ => rfl)
  | dcpIndY _ => exact .modify .decrementCompareCounted (fun _ => rfl)
  | cmpZpX _ => exact .read .compareA (fun _ => rfl)
  | decZpX _ => exact .modify .decrementSetCounted (fun _ => rfl)
  | dcpZpX _ => exact .modify .decrementCompareCounted (fun _ => rfl)
  | cld => exact .implied .clearD (fun _ => rfl)
  | cmpAbsY _ => exact .read .compareA (fun _ => rfl)
  | dcpAbsY _ => exact .modify .decrementCompareCounted (fun _ => rfl)
  | cmpAbsX _ => exact .read .compareA (fun _ => rfl)
  | decAbsX _ => exact .modify .decrementSetCounted (fun _ => rfl)
  | dcpAbsX _ => exact .modify .decrementCompareCounted (fun _ => rfl)
  | cpxImm _ => exact .read .compareX (fun _ => rfl)
  | sbcIndX _ => exact .read .subtractA (fun _ => rfl)
  | isbIndX _ => exact .modify .incrementSubtractCounted (fun _ => rfl)
  | cpxZp _ => exact .read .compareX (fun _ => rfl)
  | sbcZp _ => exact .read .subtractA (fun _ => rfl)
  | incZp _ => exact .modify .incrementSetCounted (fun _ => rfl)
  | isbZp _ => exact .modify .incrementSubtractCounted (fun _ => rfl)
  | inx => exact .implied .incrementX (fun _ => rfl)
  | sbcImm _ => exact .read .subtractA (fun _ => rfl)
  | nop => exact .implied .nothing (fun _ => rfl)
  | usbcImm _ => exact .read .subtractA (fun _ => rfl)
  | cpxAbs _ => exact .read .compareX (fun _ => rfl)
  | sbcAbs _ => exact .read .subtractA (fun _ => rfl)
  | incAbs _ => exact .modify .incrementSetCounted (fun _ => rfl)
  | isbAbs _ => exact .modify .incrementSubtractCounted (fun _ => rfl)
  | beq _ => exact .branch (.isSet .z) (fun _ => rfl)
  | sbcIndY _ => exact .read .subtractA (fun _ => rfl)
  | isbIndY _ => exact .modify .incrementSubtractCounted (fun _ => rfl)
  | sbcZpX _ => exact .read .subtractA (fun _ => rfl)
  | incZpX _ => exact .modify .incrementSetCounted (fun _ => rfl)
  | isbZpX _ => exact .modify .incrementSubtractCounted (fun _ => rfl)
  | sed => exact .implied .setD (fun _ => rfl)
  | sbcAbsY _ => exact .read .subtractA (fun _ => rfl)
  | isbAbsY _ => exact .modify .incrementSubtractCounted (fun _ => rfl)
  | sbcAbsX _ => exact .read .subtractA (fun _ => rfl)
  | incAbsX _ => exact .modify .incrementSetCounted (fun _ => rfl)
  | isbAbsX _ => exact .modify .incrementSubtractCounted (fun _ => rfl)

/-- Every instruction answers a next state in every state: the core stops by its run state, not by an answer
(40_core_and_addressing.md R127, log 6). -/
theorem exec_next (i : Instr) (s : State) : ∃ t, exec i s = .next t := by
  cases exec_shape i with
  | implied _ he => exact ⟨_, he s⟩
  | read _ he => exact ⟨_, he s⟩
  | @store v o _ he =>
    by_cases h : (Operand.ea s o).toNat < 0x8000
    · exact ⟨_, (he s).trans (runWrite_ram _ _ _ h)⟩
    · exact ⟨_, (he s).trans (runWrite_rom _ _ _ h)⟩
  | @modify f g o _ he =>
    by_cases h : (Operand.ea s o).toNat < 0x8000
    · exact ⟨_, (he s).trans (runWrite_ram _ _ _ h)⟩
    · exact ⟨_, (he s).trans (runWrite_rom _ _ _ h)⟩
  | branch _ he => exact ⟨_, he s⟩
  | jump he => exact ⟨_, he s⟩
  | jumpThrough he => exact ⟨_, he s⟩
  | call he => exact ⟨_, he s⟩
  | ret he => exact ⟨_, he s⟩
  | breakTo he => exact ⟨_, he s⟩
  | fromHandler he => exact ⟨_, he s⟩
  | fault he => exact ⟨_, he s⟩
  | jam he => exact ⟨_, he s⟩

end Sys2Proof.Machine
end

