-- ==== Sys2Proof/Tests/Slice0.lean ====
section
/-! SUPPORT. Tests: the decoding of every opcode, the refusals of well-formedness, and single steps whose expected
results are the vectors of spec/95_test_vectors.md (named in each comment). -/

namespace Sys2Proof.Tests

open Sys2Proof.Machine

/-- The instruction a list of bytes starts with. -/
def decoded (bs : List Byte) : Option Instr :=
  match decode bs with
  | .ok (i, _) => some i
  | .error _ => none

/-- A state with the given registers, code at PC and RAM bytes, otherwise as after reset. -/
def start (a x y sp p : Byte) (pc : Word) (code : List Byte) (cells : List (Word × Byte)) : State :=
  let s : State := { State.reset with a := a, x := x, y := y, sp := sp, p := p, pc := pc }
  cells.foldl (fun s c => s.placeByte c.1 c.2) (s.placeBytes pc code)

/-- One step gives a running state with these registers and bytes. -/
def stepsTo (s : State) (a x y sp p : Byte) (pc : Word) (cells : List (Word × Byte)) : Bool :=
  match step s with
  | .next t =>
    decide ((t.a, t.x, t.y, t.sp, t.p, t.pc) = (a, x, y, sp, p, pc)) && decide (t.run = .running) &&
      cells.all (fun c => decide (t.read c.1 = c.2))
  | .fault _ => false
  | .refused _ => false

/-- One step gives this run state, fault record and PC, with every register and byte of RAM as before. -/
def stopsWith (s : State) (run : RunState) (fault : Option FaultRecord) (pc : Word) : Bool :=
  match step s with
  | .next t => decide (t = { s with run := run, fault := fault, pc := pc })
  | .fault _ => false
  | .refused _ => false

/-- Row 0x of the opcode map (30_encoding.md R97), each opcode followed by the bytes 0x34 0x12. -/
theorem test_decode_row_0 :
    ([0x00, 0x01, 0x02, 0x03, 0x04, 0x05, 0x06, 0x07, 0x08, 0x09, 0x0A, 0x0B, 0x0C, 0x0D, 0x0E, 0x0F] : List Byte).map (fun op => decoded [op, 0x34, 0x12]) =
      [some .brk, some (.oraIndX 0x34), some (.jam 0x02), some (.sloIndX 0x34),
       some (.nopZp 0x04 0x34), some (.oraZp 0x34), some (.aslZp 0x34), some (.sloZp 0x34),
       some .php, some (.oraImm 0x34), some .aslAcc, some (.ancImm 0x0B 0x34),
       some (.nopAbs 0x1234), some (.oraAbs 0x1234), some (.aslAbs 0x1234), some (.sloAbs 0x1234)] := by
  decide

/-- Row 1x of the opcode map (30_encoding.md R97), each opcode followed by the bytes 0x34 0x12. -/
theorem test_decode_row_1 :
    ([0x10, 0x11, 0x12, 0x13, 0x14, 0x15, 0x16, 0x17, 0x18, 0x19, 0x1A, 0x1B, 0x1C, 0x1D, 0x1E, 0x1F] : List Byte).map (fun op => decoded [op, 0x34, 0x12]) =
      [some (.bpl 0x34), some (.oraIndY 0x34), some (.jam 0x12), some (.sloIndY 0x34),
       some (.nopZpX 0x14 0x34), some (.oraZpX 0x34), some (.aslZpX 0x34), some (.sloZpX 0x34),
       some .clc, some (.oraAbsY 0x1234), some (.nopImplied 0x1A), some (.sloAbsY 0x1234),
       some (.nopAbsX 0x1C 0x1234), some (.oraAbsX 0x1234), some (.aslAbsX 0x1234), some (.sloAbsX 0x1234)] := by
  decide

/-- Row 2x of the opcode map (30_encoding.md R97), each opcode followed by the bytes 0x34 0x12. -/
theorem test_decode_row_2 :
    ([0x20, 0x21, 0x22, 0x23, 0x24, 0x25, 0x26, 0x27, 0x28, 0x29, 0x2A, 0x2B, 0x2C, 0x2D, 0x2E, 0x2F] : List Byte).map (fun op => decoded [op, 0x34, 0x12]) =
      [some (.jsrAbs 0x1234), some (.andIndX 0x34), some (.jam 0x22), some (.rlaIndX 0x34),
       some (.bitZp 0x34), some (.andZp 0x34), some (.rolZp 0x34), some (.rlaZp 0x34),
       some .plp, some (.andImm 0x34), some .rolAcc, some (.ancImm 0x2B 0x34),
       some (.bitAbs 0x1234), some (.andAbs 0x1234), some (.rolAbs 0x1234), some (.rlaAbs 0x1234)] := by
  decide

/-- Row 3x of the opcode map (30_encoding.md R97), each opcode followed by the bytes 0x34 0x12. -/
theorem test_decode_row_3 :
    ([0x30, 0x31, 0x32, 0x33, 0x34, 0x35, 0x36, 0x37, 0x38, 0x39, 0x3A, 0x3B, 0x3C, 0x3D, 0x3E, 0x3F] : List Byte).map (fun op => decoded [op, 0x34, 0x12]) =
      [some (.bmi 0x34), some (.andIndY 0x34), some (.jam 0x32), some (.rlaIndY 0x34),
       some (.nopZpX 0x34 0x34), some (.andZpX 0x34), some (.rolZpX 0x34), some (.rlaZpX 0x34),
       some .sec, some (.andAbsY 0x1234), some (.nopImplied 0x3A), some (.rlaAbsY 0x1234),
       some (.nopAbsX 0x3C 0x1234), some (.andAbsX 0x1234), some (.rolAbsX 0x1234), some (.rlaAbsX 0x1234)] := by
  decide

/-- Row 4x of the opcode map (30_encoding.md R97), each opcode followed by the bytes 0x34 0x12. -/
theorem test_decode_row_4 :
    ([0x40, 0x41, 0x42, 0x43, 0x44, 0x45, 0x46, 0x47, 0x48, 0x49, 0x4A, 0x4B, 0x4C, 0x4D, 0x4E, 0x4F] : List Byte).map (fun op => decoded [op, 0x34, 0x12]) =
      [some .rti, some (.eorIndX 0x34), some (.jam 0x42), some (.sreIndX 0x34),
       some (.nopZp 0x44 0x34), some (.eorZp 0x34), some (.lsrZp 0x34), some (.sreZp 0x34),
       some .pha, some (.eorImm 0x34), some .lsrAcc, some (.alrImm 0x34),
       some (.jmpAbs 0x1234), some (.eorAbs 0x1234), some (.lsrAbs 0x1234), some (.sreAbs 0x1234)] := by
  decide

/-- Row 5x of the opcode map (30_encoding.md R97), each opcode followed by the bytes 0x34 0x12. -/
theorem test_decode_row_5 :
    ([0x50, 0x51, 0x52, 0x53, 0x54, 0x55, 0x56, 0x57, 0x58, 0x59, 0x5A, 0x5B, 0x5C, 0x5D, 0x5E, 0x5F] : List Byte).map (fun op => decoded [op, 0x34, 0x12]) =
      [some (.bvc 0x34), some (.eorIndY 0x34), some (.jam 0x52), some (.sreIndY 0x34),
       some (.nopZpX 0x54 0x34), some (.eorZpX 0x34), some (.lsrZpX 0x34), some (.sreZpX 0x34),
       some .cli, some (.eorAbsY 0x1234), some (.nopImplied 0x5A), some (.sreAbsY 0x1234),
       some (.nopAbsX 0x5C 0x1234), some (.eorAbsX 0x1234), some (.lsrAbsX 0x1234), some (.sreAbsX 0x1234)] := by
  decide

/-- Row 6x of the opcode map (30_encoding.md R97), each opcode followed by the bytes 0x34 0x12. -/
theorem test_decode_row_6 :
    ([0x60, 0x61, 0x62, 0x63, 0x64, 0x65, 0x66, 0x67, 0x68, 0x69, 0x6A, 0x6B, 0x6C, 0x6D, 0x6E, 0x6F] : List Byte).map (fun op => decoded [op, 0x34, 0x12]) =
      [some .rts, some (.adcIndX 0x34), some (.jam 0x62), some (.rraIndX 0x34),
       some (.nopZp 0x64 0x34), some (.adcZp 0x34), some (.rorZp 0x34), some (.rraZp 0x34),
       some .pla, some (.adcImm 0x34), some .rorAcc, some (.arrImm 0x34),
       some (.jmpInd 0x1234), some (.adcAbs 0x1234), some (.rorAbs 0x1234), some (.rraAbs 0x1234)] := by
  decide

/-- Row 7x of the opcode map (30_encoding.md R97), each opcode followed by the bytes 0x34 0x12. -/
theorem test_decode_row_7 :
    ([0x70, 0x71, 0x72, 0x73, 0x74, 0x75, 0x76, 0x77, 0x78, 0x79, 0x7A, 0x7B, 0x7C, 0x7D, 0x7E, 0x7F] : List Byte).map (fun op => decoded [op, 0x34, 0x12]) =
      [some (.bvs 0x34), some (.adcIndY 0x34), some (.jam 0x72), some (.rraIndY 0x34),
       some (.nopZpX 0x74 0x34), some (.adcZpX 0x34), some (.rorZpX 0x34), some (.rraZpX 0x34),
       some .sei, some (.adcAbsY 0x1234), some (.nopImplied 0x7A), some (.rraAbsY 0x1234),
       some (.nopAbsX 0x7C 0x1234), some (.adcAbsX 0x1234), some (.rorAbsX 0x1234), some (.rraAbsX 0x1234)] := by
  decide

/-- Row 8x of the opcode map (30_encoding.md R97), each opcode followed by the bytes 0x34 0x12. -/
theorem test_decode_row_8 :
    ([0x80, 0x81, 0x82, 0x83, 0x84, 0x85, 0x86, 0x87, 0x88, 0x89, 0x8A, 0x8B, 0x8C, 0x8D, 0x8E, 0x8F] : List Byte).map (fun op => decoded [op, 0x34, 0x12]) =
      [some (.nopImm 0x80 0x34), some (.staIndX 0x34), some (.nopImm 0x82 0x34), some (.saxIndX 0x34),
       some (.styZp 0x34), some (.staZp 0x34), some (.stxZp 0x34), some (.saxZp 0x34),
       some .dey, some (.nopImm 0x89 0x34), some .txa, some (.aneImm 0x34),
       some (.styAbs 0x1234), some (.staAbs 0x1234), some (.stxAbs 0x1234), some (.saxAbs 0x1234)] := by
  decide

/-- Row 9x of the opcode map (30_encoding.md R97), each opcode followed by the bytes 0x34 0x12. -/
theorem test_decode_row_9 :
    ([0x90, 0x91, 0x92, 0x93, 0x94, 0x95, 0x96, 0x97, 0x98, 0x99, 0x9A, 0x9B, 0x9C, 0x9D, 0x9E, 0x9F] : List Byte).map (fun op => decoded [op, 0x34, 0x12]) =
      [some (.bcc 0x34), some (.staIndY 0x34), some (.jam 0x92), some (.shaIndY 0x34),
       some (.styZpX 0x34), some (.staZpX 0x34), some (.stxZpY 0x34), some (.saxZpY 0x34),
       some .tya, some (.staAbsY 0x1234), some .txs, some (.tasAbsY 0x1234),
       some (.shyAbsX 0x1234), some (.staAbsX 0x1234), some (.shxAbsY 0x1234), some (.shaAbsY 0x1234)] := by
  decide

/-- Row Ax of the opcode map (30_encoding.md R97), each opcode followed by the bytes 0x34 0x12. -/
theorem test_decode_row_A :
    ([0xA0, 0xA1, 0xA2, 0xA3, 0xA4, 0xA5, 0xA6, 0xA7, 0xA8, 0xA9, 0xAA, 0xAB, 0xAC, 0xAD, 0xAE, 0xAF] : List Byte).map (fun op => decoded [op, 0x34, 0x12]) =
      [some (.ldyImm 0x34), some (.ldaIndX 0x34), some (.ldxImm 0x34), some (.laxIndX 0x34),
       some (.ldyZp 0x34), some (.ldaZp 0x34), some (.ldxZp 0x34), some (.laxZp 0x34),
       some .tay, some (.ldaImm 0x34), some .tax, some (.lxaImm 0x34),
       some (.ldyAbs 0x1234), some (.ldaAbs 0x1234), some (.ldxAbs 0x1234), some (.laxAbs 0x1234)] := by
  decide

/-- Row Bx of the opcode map (30_encoding.md R97), each opcode followed by the bytes 0x34 0x12. -/
theorem test_decode_row_B :
    ([0xB0, 0xB1, 0xB2, 0xB3, 0xB4, 0xB5, 0xB6, 0xB7, 0xB8, 0xB9, 0xBA, 0xBB, 0xBC, 0xBD, 0xBE, 0xBF] : List Byte).map (fun op => decoded [op, 0x34, 0x12]) =
      [some (.bcs 0x34), some (.ldaIndY 0x34), some (.jam 0xB2), some (.laxIndY 0x34),
       some (.ldyZpX 0x34), some (.ldaZpX 0x34), some (.ldxZpY 0x34), some (.laxZpY 0x34),
       some .clv, some (.ldaAbsY 0x1234), some .tsx, some (.lasAbsY 0x1234),
       some (.ldyAbsX 0x1234), some (.ldaAbsX 0x1234), some (.ldxAbsY 0x1234), some (.laxAbsY 0x1234)] := by
  decide

/-- Row Cx of the opcode map (30_encoding.md R97), each opcode followed by the bytes 0x34 0x12. -/
theorem test_decode_row_C :
    ([0xC0, 0xC1, 0xC2, 0xC3, 0xC4, 0xC5, 0xC6, 0xC7, 0xC8, 0xC9, 0xCA, 0xCB, 0xCC, 0xCD, 0xCE, 0xCF] : List Byte).map (fun op => decoded [op, 0x34, 0x12]) =
      [some (.cpyImm 0x34), some (.cmpIndX 0x34), some (.nopImm 0xC2 0x34), some (.dcpIndX 0x34),
       some (.cpyZp 0x34), some (.cmpZp 0x34), some (.decZp 0x34), some (.dcpZp 0x34),
       some .iny, some (.cmpImm 0x34), some .dex, some (.sbxImm 0x34),
       some (.cpyAbs 0x1234), some (.cmpAbs 0x1234), some (.decAbs 0x1234), some (.dcpAbs 0x1234)] := by
  decide

/-- Row Dx of the opcode map (30_encoding.md R97), each opcode followed by the bytes 0x34 0x12. -/
theorem test_decode_row_D :
    ([0xD0, 0xD1, 0xD2, 0xD3, 0xD4, 0xD5, 0xD6, 0xD7, 0xD8, 0xD9, 0xDA, 0xDB, 0xDC, 0xDD, 0xDE, 0xDF] : List Byte).map (fun op => decoded [op, 0x34, 0x12]) =
      [some (.bne 0x34), some (.cmpIndY 0x34), some (.jam 0xD2), some (.dcpIndY 0x34),
       some (.nopZpX 0xD4 0x34), some (.cmpZpX 0x34), some (.decZpX 0x34), some (.dcpZpX 0x34),
       some .cld, some (.cmpAbsY 0x1234), some (.nopImplied 0xDA), some (.dcpAbsY 0x1234),
       some (.nopAbsX 0xDC 0x1234), some (.cmpAbsX 0x1234), some (.decAbsX 0x1234), some (.dcpAbsX 0x1234)] := by
  decide

/-- Row Ex of the opcode map (30_encoding.md R97), each opcode followed by the bytes 0x34 0x12. -/
theorem test_decode_row_E :
    ([0xE0, 0xE1, 0xE2, 0xE3, 0xE4, 0xE5, 0xE6, 0xE7, 0xE8, 0xE9, 0xEA, 0xEB, 0xEC, 0xED, 0xEE, 0xEF] : List Byte).map (fun op => decoded [op, 0x34, 0x12]) =
      [some (.cpxImm 0x34), some (.sbcIndX 0x34), some (.nopImm 0xE2 0x34), some (.isbIndX 0x34),
       some (.cpxZp 0x34), some (.sbcZp 0x34), some (.incZp 0x34), some (.isbZp 0x34),
       some .inx, some (.sbcImm 0x34), some .nop, some (.usbcImm 0x34),
       some (.cpxAbs 0x1234), some (.sbcAbs 0x1234), some (.incAbs 0x1234), some (.isbAbs 0x1234)] := by
  decide

/-- Row Fx of the opcode map (30_encoding.md R97), each opcode followed by the bytes 0x34 0x12. -/
theorem test_decode_row_F :
    ([0xF0, 0xF1, 0xF2, 0xF3, 0xF4, 0xF5, 0xF6, 0xF7, 0xF8, 0xF9, 0xFA, 0xFB, 0xFC, 0xFD, 0xFE, 0xFF] : List Byte).map (fun op => decoded [op, 0x34, 0x12]) =
      [some (.beq 0x34), some (.sbcIndY 0x34), some (.jam 0xF2), some (.isbIndY 0x34),
       some (.nopZpX 0xF4 0x34), some (.sbcZpX 0x34), some (.incZpX 0x34), some (.isbZpX 0x34),
       some .sed, some (.sbcAbsY 0x1234), some (.nopImplied 0xFA), some (.isbAbsY 0x1234),
       some (.nopAbsX 0xFC 0x1234), some (.sbcAbsX 0x1234), some (.incAbsX 0x1234), some (.isbAbsX 0x1234)] := by
  decide

/-- Bytes that are no instruction are refused by name. -/
theorem test_decode_refuses :
    decode [] = .error .noBytes ∧ decode [0xA9] = .error (.truncated 0xA9) ∧ decode [0x4C, 0x34] = .error (.truncated 0x4C) := by
  decide

/-- Bytes of the formats F1, F2 and F3 written out by hand (30_encoding.md R91): TAX is AA; LDA #$7F is A9 7F; JMP
($02FF) is 6C FF 02; the bytes after the instruction are left. -/
theorem test_encode_formats :
    encode .tax = [0xAA] ∧ encode (.ldaImm 0x7F) = [0xA9, 0x7F] ∧ encode (.jmpInd 0x02FF) = [0x6C, 0xFF, 0x02] ∧
      decode [0x6C, 0xFF, 0x02, 0xEA] = .ok (.jmpInd 0x02FF, [0xEA]) := by
  decide

/-! Well-formedness refuses an ill-formed term for each of its checks. -/

theorem test_wellFormed_refuses_jam : Instr.wellFormed (.jam 0x00) = false := by decide
theorem test_wellFormed_refuses_anc : Instr.wellFormed (.ancImm 0x8B 0x01) = false := by decide
theorem test_wellFormed_refuses_nopImplied : Instr.wellFormed (.nopImplied 0xEA) = false := by decide
theorem test_wellFormed_refuses_nopImm : Instr.wellFormed (.nopImm 0xA9 0x00) = false := by decide
theorem test_wellFormed_refuses_nopZp : Instr.wellFormed (.nopZp 0xA5 0x10) = false := by decide
theorem test_wellFormed_refuses_nopZpX : Instr.wellFormed (.nopZpX 0x04 0x10) = false := by decide
theorem test_wellFormed_refuses_nopAbsX : Instr.wellFormed (.nopAbsX 0x0C 0x1234) = false := by decide
theorem test_wellFormed_accepts_jam : Instr.wellFormed (.jam 0xF2) = true := by decide
theorem test_wellFormed_accepts_lda : Instr.wellFormed (.ldaImm 0x00) = true := by decide
theorem test_wellFormed_refuses_prg_order :
    Cartridge.wellFormed { Cartridge.blank with prg := [(2, 0x01), (1, 0x01)] } = false := by decide
theorem test_wellFormed_refuses_prg_unlisted :
    Cartridge.wellFormed { Cartridge.blank with prg := [(2, 0x00)] } = false := by decide
theorem test_wellFormed_refuses_prg_range :
    Cartridge.wellFormed { Cartridge.blank with prg := [(16384, 0x01)] } = false := by decide
theorem test_wellFormed_refuses_chr_order :
    Cartridge.wellFormed { Cartridge.blank with chrLen := 8192, chr := [(2, 0x01), (2, 0x01)] } = false := by decide
theorem test_wellFormed_refuses_chr_range :
    Cartridge.wellFormed { Cartridge.blank with chr := [(0, 0x01)] } = false := by decide
theorem test_wellFormed_refuses_mapper :
    Cartridge.wellFormed { Cartridge.blank with mapper := 1 } = false := by decide
theorem test_wellFormed_accepts_blank : Config.wellFormed Config.atReset = true := by decide

/-! Single steps. -/

/-- V1.3 -/
theorem test_adc_overflow :
    stepsTo (start 0x7F 0x00 0x00 0xFD 0x25 0x0600 [0x69, 0x00] []) 0x80 0x00 0x00 0xFD 0xE4 0x0602 [] = true := by
  decide

/-- V1.7 -/
theorem test_adc_ignores_decimal :
    stepsTo (start 0x09 0x00 0x00 0xFD 0x2C 0x0600 [0x69, 0x01] []) 0x0A 0x00 0x00 0xFD 0x2C 0x0602 [] = true := by
  decide

/-- V1.2, S8 -/
theorem test_adc_carry_zero :
    stepsTo (start 0xFF 0x00 0x00 0xFD 0x24 0x0600 [0x69, 0x01] []) 0x00 0x00 0x00 0xFD 0x27 0x0602 [] = true := by
  decide

/-- V2.2 -/
theorem test_sbc_overflow :
    stepsTo (start 0x50 0x00 0x00 0xFD 0x25 0x0600 [0xE9, 0xB0] []) 0xA0 0x00 0x00 0xFD 0xE4 0x0602 [] = true := by
  decide

/-- V2.7 -/
theorem test_sbc_borrow_in :
    stepsTo (start 0x05 0x00 0x00 0xFD 0x24 0x0600 [0xE9, 0x05] []) 0xFF 0x00 0x00 0xFD 0xA4 0x0602 [] = true := by
  decide

/-- V3.1 -/
theorem test_and :
    stepsTo (start 0xF0 0x00 0x00 0xFD 0x24 0x0600 [0x29, 0x0F] []) 0x00 0x00 0x00 0xFD 0x26 0x0602 [] = true := by
  decide

/-- V3.2 -/
theorem test_ora :
    stepsTo (start 0x00 0x00 0x00 0xFD 0x24 0x0600 [0x09, 0x80] []) 0x80 0x00 0x00 0xFD 0xA4 0x0602 [] = true := by
  decide

/-- V3.3 -/
theorem test_eor :
    stepsTo (start 0xFF 0x00 0x00 0xFD 0x24 0x0600 [0x49, 0xFF] []) 0x00 0x00 0x00 0xFD 0x26 0x0602 [] = true := by
  decide

/-- V3.4 -/
theorem test_bit_zero_page :
    stepsTo (start 0x0F 0x00 0x00 0xFD 0x24 0x0600 [0x24, 0x10] [(0x0010, 0xC0)]) 0x0F 0x00 0x00 0xFD 0xE6 0x0602 [] = true := by
  decide

/-- V3.5 -/
theorem test_bit_absolute :
    stepsTo (start 0xF0 0x00 0x00 0xFD 0x27 0x0600 [0x2C, 0x00, 0x02] [(0x0200, 0xC0)]) 0xF0 0x00 0x00 0xFD 0xE5 0x0603 [] = true := by
  decide

/-- V4.1 -/
theorem test_cmp_less :
    stepsTo (start 0x40 0x00 0x00 0xFD 0x24 0x0600 [0xC9, 0x41] []) 0x40 0x00 0x00 0xFD 0xA4 0x0602 [] = true := by
  decide

/-- V4.2 -/
theorem test_cmp_equal :
    stepsTo (start 0x40 0x00 0x00 0xFD 0x24 0x0600 [0xC9, 0x40] []) 0x40 0x00 0x00 0xFD 0x27 0x0602 [] = true := by
  decide

/-- V4.4 -/
theorem test_cpx :
    stepsTo (start 0x00 0x00 0x00 0xFD 0x24 0x0600 [0xE0, 0x80] []) 0x00 0x00 0x00 0xFD 0xA4 0x0602 [] = true := by
  decide

/-- V4.5 -/
theorem test_cpy :
    stepsTo (start 0x00 0x00 0x00 0xFD 0x24 0x0600 [0xC0, 0x00] []) 0x00 0x00 0x00 0xFD 0x27 0x0602 [] = true := by
  decide

/-- V5.1 -/
theorem test_inc :
    stepsTo (start 0x00 0x00 0x00 0xFD 0x24 0x0600 [0xE6, 0x10] [(0x0010, 0xFF)]) 0x00 0x00 0x00 0xFD 0x26 0x0602 [(0x0010, 0x00)] = true := by
  decide

/-- V5.2 -/
theorem test_dec :
    stepsTo (start 0x00 0x00 0x00 0xFD 0x24 0x0600 [0xC6, 0x10] []) 0x00 0x00 0x00 0xFD 0xA4 0x0602 [(0x0010, 0xFF)] = true := by
  decide

/-- V5.3 -/
theorem test_inx :
    stepsTo (start 0x00 0xFF 0x00 0xFD 0x24 0x0600 [0xE8] []) 0x00 0x00 0x00 0xFD 0x26 0x0601 [] = true := by
  decide

/-- R192 -/
theorem test_iny :
    stepsTo (start 0x00 0x00 0x00 0xFD 0x24 0x0600 [0xC8] []) 0x00 0x00 0x01 0xFD 0x24 0x0601 [] = true := by
  decide

/-- R193 -/
theorem test_dex :
    stepsTo (start 0x00 0x01 0x00 0xFD 0x24 0x0600 [0xCA] []) 0x00 0x00 0x00 0xFD 0x26 0x0601 [] = true := by
  decide

/-- V5.4 -/
theorem test_dey :
    stepsTo (start 0x00 0x00 0x00 0xFD 0x24 0x0600 [0x88] []) 0x00 0x00 0xFF 0xFD 0xA4 0x0601 [] = true := by
  decide

/-- V6.1 -/
theorem test_asl_accumulator :
    stepsTo (start 0x81 0x00 0x00 0xFD 0x24 0x0600 [0x0A] []) 0x02 0x00 0x00 0xFD 0x25 0x0601 [] = true := by
  decide

/-- V6.5 -/
theorem test_asl_memory :
    stepsTo (start 0x00 0x00 0x00 0xFD 0x24 0x0600 [0x06, 0x10] [(0x0010, 0x40)]) 0x00 0x00 0x00 0xFD 0xA4 0x0602 [(0x0010, 0x80)] = true := by
  decide

/-- V6.2 -/
theorem test_lsr :
    stepsTo (start 0x01 0x00 0x00 0xFD 0x24 0x0600 [0x4A] []) 0x00 0x00 0x00 0xFD 0x27 0x0601 [] = true := by
  decide

/-- R212 -/
theorem test_rol_accumulator :
    stepsTo (start 0x81 0x00 0x00 0xFD 0x25 0x0600 [0x2A] []) 0x03 0x00 0x00 0xFD 0x25 0x0601 [] = true := by
  decide

/-- V6.4 -/
theorem test_ror_accumulator :
    stepsTo (start 0x01 0x00 0x00 0xFD 0x25 0x0600 [0x6A] []) 0x80 0x00 0x00 0xFD 0xA5 0x0601 [] = true := by
  decide

/-- V6.6 -/
theorem test_ror_memory :
    stepsTo (start 0x00 0x00 0x00 0xFD 0x25 0x0600 [0x66, 0x10] []) 0x00 0x00 0x00 0xFD 0xA4 0x0602 [(0x0010, 0x80)] = true := by
  decide

/-- V7.1 -/
theorem test_lda_zero_page_x_wraps :
    stepsTo (start 0x00 0x20 0x00 0xFD 0x24 0x0600 [0xB5, 0xF0] [(0x0010, 0x99)]) 0x99 0x20 0x00 0xFD 0xA4 0x0602 [] = true := by
  decide

/-- V7.2 -/
theorem test_lda_indirect_x_wraps :
    stepsTo (start 0x00 0x01 0x00 0xFD 0x24 0x0600 [0xA1, 0xFE] [(0x00FF, 0x34), (0x0000, 0x12), (0x1234, 0x55)]) 0x55 0x01 0x00 0xFD 0x24 0x0602 [] = true := by
  decide

/-- V7.3 -/
theorem test_lda_indirect_y_wraps :
    stepsTo (start 0x00 0x00 0x10 0xFD 0x24 0x0600 [0xB1, 0xFF] [(0x00FF, 0x00), (0x0000, 0x03), (0x0310, 0x77)]) 0x77 0x00 0x10 0xFD 0x24 0x0602 [] = true := by
  decide

/-- V7.4 -/
theorem test_lda_absolute_x_wraps :
    stepsTo (start 0x00 0x02 0x00 0xFD 0x24 0x0600 [0xBD, 0xFF, 0xFF] [(0x0001, 0x66)]) 0x66 0x02 0x00 0xFD 0x24 0x0603 [] = true := by
  decide

/-- V7.5 -/
theorem test_ldx_zero_page_y_wraps :
    stepsTo (start 0x00 0x00 0x02 0xFD 0x24 0x0600 [0xB6, 0xFF] [(0x0001, 0x00)]) 0x00 0x00 0x02 0xFD 0x26 0x0602 [] = true := by
  decide

/-- V7.7, with 0x5A at PRG 0x3FFC, seen at 0xBFFC too -/
theorem test_lda_rom_mirror :
    stepsTo (start 0x00 0x00 0x00 0xFD 0x24 0x0600 [0xAD, 0xFC, 0xFF] [(0xBFFC, 0x5A)]) 0x5A 0x00 0x00 0xFD 0x24 0x0603 [] = true := by
  decide

/-- R152 -/
theorem test_ldy :
    stepsTo (start 0x00 0x00 0x00 0xFD 0x24 0x0600 [0xA0, 0x80] []) 0x00 0x00 0x80 0xFD 0xA4 0x0602 [] = true := by
  decide

/-- R153 -/
theorem test_sta :
    stepsTo (start 0x42 0x00 0x00 0xFD 0x24 0x0600 [0x85, 0x10] []) 0x42 0x00 0x00 0xFD 0x24 0x0602 [(0x0010, 0x42)] = true := by
  decide

/-- R154 -/
theorem test_stx :
    stepsTo (start 0x00 0x07 0x00 0xFD 0x24 0x0600 [0x8E, 0x00, 0x02] []) 0x00 0x07 0x00 0xFD 0x24 0x0603 [(0x0200, 0x07)] = true := by
  decide

/-- R155 -/
theorem test_sty_zero_page_x_wraps :
    stepsTo (start 0x00 0xFF 0x01 0xFD 0x24 0x0600 [0x94, 0x01] []) 0x00 0xFF 0x01 0xFD 0x24 0x0602 [(0x0000, 0x01)] = true := by
  decide

/-- R156 -/
theorem test_tax :
    stepsTo (start 0x00 0x05 0x00 0xFD 0x24 0x0600 [0xAA] []) 0x00 0x00 0x00 0xFD 0x26 0x0601 [] = true := by
  decide

/-- R157 -/
theorem test_tay :
    stepsTo (start 0x90 0x00 0x00 0xFD 0x24 0x0600 [0xA8] []) 0x90 0x00 0x90 0xFD 0xA4 0x0601 [] = true := by
  decide

/-- R158 -/
theorem test_txa :
    stepsTo (start 0x00 0x01 0x00 0xFD 0x24 0x0600 [0x8A] []) 0x01 0x01 0x00 0xFD 0x24 0x0601 [] = true := by
  decide

/-- R159 -/
theorem test_tya :
    stepsTo (start 0x00 0x00 0xFF 0xFD 0x24 0x0600 [0x98] []) 0xFF 0x00 0xFF 0xFD 0xA4 0x0601 [] = true := by
  decide

/-- V9.7 -/
theorem test_tsx :
    stepsTo (start 0x00 0x03 0x00 0x00 0x24 0x0600 [0xBA] []) 0x00 0x00 0x00 0x00 0x26 0x0601 [] = true := by
  decide

/-- V9.8 -/
theorem test_txs_sets_no_flags :
    stepsTo (start 0x00 0x00 0x00 0xFD 0xA4 0x0600 [0x9A] []) 0x00 0x00 0x00 0x00 0xA4 0x0601 [] = true := by
  decide

/-- V8.2 -/
theorem test_bne_taken :
    stepsTo (start 0x00 0x00 0x00 0xFD 0x24 0x1000 [0xD0, 0xFB] []) 0x00 0x00 0x00 0xFD 0x24 0x0FFD [] = true := by
  decide

/-- V8.3 -/
theorem test_beq_not_taken :
    stepsTo (start 0x00 0x00 0x00 0xFD 0x24 0x1000 [0xF0, 0x05] []) 0x00 0x00 0x00 0xFD 0x24 0x1002 [] = true := by
  decide

/-- V8.4 -/
theorem test_bcs_wraps :
    stepsTo (start 0x00 0x00 0x00 0xFD 0x25 0xFFF0 [0xB0, 0x10] []) 0x00 0x00 0x00 0xFD 0x25 0x0002 [] = true := by
  decide

/-- V8.5 -/
theorem test_bne_wraps_back :
    stepsTo (start 0x00 0x00 0x00 0xFD 0x24 0x0004 [0xD0, 0xF0] []) 0x00 0x00 0x00 0xFD 0x24 0xFFF6 [] = true := by
  decide

/-- V8.8 -/
theorem test_bpl_minus_128 :
    stepsTo (start 0x00 0x00 0x00 0xFD 0x24 0x1000 [0x10, 0x80] []) 0x00 0x00 0x00 0xFD 0x24 0x0F82 [] = true := by
  decide

/-- V8.9 -/
theorem test_bmi_plus_127 :
    stepsTo (start 0x00 0x00 0x00 0xFD 0xA4 0x1000 [0x30, 0x7F] []) 0x00 0x00 0x00 0xFD 0xA4 0x1081 [] = true := by
  decide

/-- R231 -/
theorem test_bvc :
    stepsTo (start 0x00 0x00 0x00 0xFD 0x24 0x1000 [0x50, 0xFB] []) 0x00 0x00 0x00 0xFD 0x24 0x0FFD [] = true := by
  decide

/-- R232 -/
theorem test_bvs :
    stepsTo (start 0x00 0x00 0x00 0xFD 0x64 0x1000 [0x70, 0x7F] []) 0x00 0x00 0x00 0xFD 0x64 0x1081 [] = true := by
  decide

/-- R233 -/
theorem test_bcc :
    stepsTo (start 0x00 0x00 0x00 0xFD 0x24 0x1000 [0x90, 0x80] []) 0x00 0x00 0x00 0xFD 0x24 0x0F82 [] = true := by
  decide

/-- V9.2 -/
theorem test_pha_wraps :
    stepsTo (start 0x42 0x00 0x00 0x00 0x24 0x0600 [0x48] []) 0x42 0x00 0x00 0xFF 0x24 0x0601 [(0x0100, 0x42)] = true := by
  decide

/-- V9.3 -/
theorem test_php :
    stepsTo (start 0x00 0x00 0x00 0xFD 0x24 0x0600 [0x08] []) 0x00 0x00 0x00 0xFC 0x24 0x0601 [(0x01FD, 0x34)] = true := by
  decide

/-- V9.6 -/
theorem test_pla_wraps :
    stepsTo (start 0x00 0x00 0x00 0xFF 0x24 0x0600 [0x68] [(0x0100, 0x80)]) 0x80 0x00 0x00 0x00 0xA4 0x0601 [] = true := by
  decide

/-- V9.4 -/
theorem test_plp_drops_break :
    stepsTo (start 0x00 0x00 0x00 0xFC 0x24 0x0600 [0x28] [(0x01FD, 0xFF)]) 0x00 0x00 0x00 0xFD 0xEF 0x0601 [] = true := by
  decide

/-- V9.5 -/
theorem test_plp_forces_bit_5 :
    stepsTo (start 0x00 0x00 0x00 0xFC 0x24 0x0600 [0x28] [(0x01FD, 0x00)]) 0x00 0x00 0x00 0xFD 0x20 0x0601 [] = true := by
  decide

/-- V10.1 -/
theorem test_jmp :
    stepsTo (start 0x00 0x00 0x00 0xFD 0x24 0x0600 [0x4C, 0x34, 0x12] []) 0x00 0x00 0x00 0xFD 0x24 0x1234 [] = true := by
  decide

/-- V10.2 -/
theorem test_jmp_indirect_page_bug :
    stepsTo (start 0x00 0x00 0x00 0xFD 0x24 0x0600 [0x6C, 0xFF, 0x02] [(0x02FF, 0x00), (0x0200, 0x80), (0x0300, 0x90)]) 0x00 0x00 0x00 0xFD 0x24 0x8000 [] = true := by
  decide

/-- V10.3 -/
theorem test_jmp_indirect :
    stepsTo (start 0x00 0x00 0x00 0xFD 0x24 0x0600 [0x6C, 0x00, 0x03] [(0x0300, 0xCD), (0x0301, 0xAB)]) 0x00 0x00 0x00 0xFD 0x24 0xABCD [] = true := by
  decide

/-- V10.4 -/
theorem test_jsr :
    stepsTo (start 0x00 0x00 0x00 0xFD 0x24 0xAAFE [0x20, 0xFF, 0x01] []) 0x00 0x00 0x00 0xFB 0x24 0x01FF [(0x01FD, 0xAB), (0x01FC, 0x00)] = true := by
  decide

/-- V10.5 -/
theorem test_rts :
    stepsTo (start 0x00 0x00 0x00 0xFB 0x24 0x0600 [0x60] [(0x01FC, 0x00), (0x01FD, 0xAB)]) 0x00 0x00 0x00 0xFD 0x24 0xAB01 [] = true := by
  decide

/-- V10.6 -/
theorem test_brk :
    stepsTo (start 0x00 0x00 0x00 0xFD 0x24 0x8000 [0x00] [(0xFFFF, 0x90)]) 0x00 0x00 0x00 0xFA 0x24 0x9000 [(0x01FD, 0x80), (0x01FC, 0x02), (0x01FB, 0x34)] = true := by
  decide

/-- V10.7 -/
theorem test_rti :
    stepsTo (start 0x00 0x00 0x00 0xFA 0x24 0x0600 [0x40] [(0x01FB, 0xC3), (0x01FC, 0x02), (0x01FD, 0x80)]) 0x00 0x00 0x00 0xFD 0xE3 0x8002 [] = true := by
  decide

/-- R250 to R257, V11 -/
theorem test_sec :
    stepsTo (start 0x00 0x00 0x00 0xFD 0x24 0x0600 [0x38] []) 0x00 0x00 0x00 0xFD 0x25 0x0601 [] = true := by
  decide

/-- R250 to R257, V11 -/
theorem test_clc :
    stepsTo (start 0x00 0x00 0x00 0xFD 0x25 0x0600 [0x18] []) 0x00 0x00 0x00 0xFD 0x24 0x0601 [] = true := by
  decide

/-- R250 to R257, V11 -/
theorem test_sed :
    stepsTo (start 0x00 0x00 0x00 0xFD 0x24 0x0600 [0xF8] []) 0x00 0x00 0x00 0xFD 0x2C 0x0601 [] = true := by
  decide

/-- R250 to R257, V11 -/
theorem test_cld :
    stepsTo (start 0x00 0x00 0x00 0xFD 0x2C 0x0600 [0xD8] []) 0x00 0x00 0x00 0xFD 0x24 0x0601 [] = true := by
  decide

/-- R250 to R257, V11 -/
theorem test_clv :
    stepsTo (start 0x00 0x00 0x00 0xFD 0x64 0x0600 [0xB8] []) 0x00 0x00 0x00 0xFD 0x24 0x0601 [] = true := by
  decide

/-- R250 to R257, V11 -/
theorem test_sei :
    stepsTo (start 0x00 0x00 0x00 0xFD 0x20 0x0600 [0x78] []) 0x00 0x00 0x00 0xFD 0x24 0x0601 [] = true := by
  decide

/-- R250 to R257, V11 -/
theorem test_cli :
    stepsTo (start 0x00 0x00 0x00 0xFD 0x24 0x0600 [0x58] []) 0x00 0x00 0x00 0xFD 0x20 0x0601 [] = true := by
  decide

/-- R250 to R257, V11 -/
theorem test_nop :
    stepsTo (start 0x00 0x00 0x00 0xFD 0xE5 0x0600 [0xEA] []) 0x00 0x00 0x00 0xFD 0xE5 0x0601 [] = true := by
  decide

/-- V12.1 -/
theorem test_lax :
    stepsTo (start 0x00 0x00 0x00 0xFD 0x24 0x0600 [0xA7, 0x10] [(0x0010, 0x80)]) 0x80 0x80 0x00 0xFD 0xA4 0x0602 [] = true := by
  decide

/-- V12.2 -/
theorem test_sax :
    stepsTo (start 0xF0 0x3C 0x00 0xFD 0x24 0x0600 [0x87, 0x10] []) 0xF0 0x3C 0x00 0xFD 0x24 0x0602 [(0x0010, 0x30)] = true := by
  decide

/-- V12.3 -/
theorem test_dcp :
    stepsTo (start 0x40 0x00 0x00 0xFD 0x24 0x0600 [0xC7, 0x10] [(0x0010, 0x41)]) 0x40 0x00 0x00 0xFD 0x27 0x0602 [(0x0010, 0x40)] = true := by
  decide

/-- V12.4 -/
theorem test_isb :
    stepsTo (start 0x00 0x00 0x00 0xFD 0x25 0x0600 [0xE7, 0x10] [(0x0010, 0xFF)]) 0x00 0x00 0x00 0xFD 0x27 0x0602 [(0x0010, 0x00)] = true := by
  decide

/-- V12.5 -/
theorem test_slo :
    stepsTo (start 0x01 0x00 0x00 0xFD 0x24 0x0600 [0x07, 0x10] [(0x0010, 0x81)]) 0x03 0x00 0x00 0xFD 0x25 0x0602 [(0x0010, 0x02)] = true := by
  decide

/-- V12.6 -/
theorem test_rla :
    stepsTo (start 0xFF 0x00 0x00 0xFD 0x25 0x0600 [0x27, 0x10] [(0x0010, 0x81)]) 0x03 0x00 0x00 0xFD 0x25 0x0602 [(0x0010, 0x03)] = true := by
  decide

/-- V12.7 -/
theorem test_sre :
    stepsTo (start 0x01 0x00 0x00 0xFD 0x24 0x0600 [0x47, 0x10] [(0x0010, 0x03)]) 0x00 0x00 0x00 0xFD 0x27 0x0602 [(0x0010, 0x01)] = true := by
  decide

/-- V12.8 -/
theorem test_rra :
    stepsTo (start 0x10 0x00 0x00 0xFD 0x25 0x0600 [0x67, 0x10] [(0x0010, 0x02)]) 0x91 0x00 0x00 0xFD 0xA4 0x0602 [(0x0010, 0x81)] = true := by
  decide

/-- V12.9 -/
theorem test_anc :
    stepsTo (start 0xF0 0x00 0x00 0xFD 0x24 0x0600 [0x0B, 0x80] []) 0x80 0x00 0x00 0xFD 0xA5 0x0602 [] = true := by
  decide

/-- V12.10 -/
theorem test_alr :
    stepsTo (start 0xFF 0x00 0x00 0xFD 0x24 0x0600 [0x4B, 0x03] []) 0x01 0x00 0x00 0xFD 0x25 0x0602 [] = true := by
  decide

/-- V12.11 -/
theorem test_arr_all_ones :
    stepsTo (start 0xFF 0x00 0x00 0xFD 0x25 0x0600 [0x6B, 0xFF] []) 0xFF 0x00 0x00 0xFD 0xA5 0x0602 [] = true := by
  decide

/-- V12.12 -/
theorem test_arr_overflow :
    stepsTo (start 0xFF 0x00 0x00 0xFD 0x24 0x0600 [0x6B, 0x40] []) 0x20 0x00 0x00 0xFD 0x64 0x0602 [] = true := by
  decide

/-- V12.13 -/
theorem test_sbx :
    stepsTo (start 0xFF 0x0F 0x00 0xFD 0x24 0x0600 [0xCB, 0x01] []) 0xFF 0x0E 0x00 0xFD 0x25 0x0602 [] = true := by
  decide

/-- V12.14 -/
theorem test_sbx_borrow :
    stepsTo (start 0xFF 0x0F 0x00 0xFD 0x24 0x0600 [0xCB, 0x10] []) 0xFF 0xFF 0x00 0xFD 0xA4 0x0602 [] = true := by
  decide

/-- V12.15 -/
theorem test_las :
    stepsTo (start 0x00 0x00 0x00 0x3F 0x24 0x0600 [0xBB, 0x00, 0x02] [(0x0200, 0xF0)]) 0x30 0x30 0x00 0x30 0x24 0x0603 [] = true := by
  decide

/-- V12.16 -/
theorem test_usbc :
    stepsTo (start 0x50 0x00 0x00 0xFD 0x25 0x0600 [0xEB, 0x30] []) 0x20 0x00 0x00 0xFD 0x25 0x0602 [] = true := by
  decide

/-- V12.17 -/
theorem test_nop_absolute_reads_rom :
    stepsTo (start 0x00 0x00 0x00 0xFD 0x24 0x0600 [0x0C, 0x00, 0x80] []) 0x00 0x00 0x00 0xFD 0x24 0x0603 [] = true := by
  decide

/-- V12.17 -/
theorem test_nop_zero_page :
    stepsTo (start 0x00 0x00 0x00 0xFD 0x24 0x0600 [0x04, 0x10] []) 0x00 0x00 0x00 0xFD 0x24 0x0602 [] = true := by
  decide

/-- V12.17 -/
theorem test_nop_implied :
    stepsTo (start 0x00 0x00 0x00 0xFD 0x24 0x0600 [0x1A] []) 0x00 0x00 0x00 0xFD 0x24 0x0601 [] = true := by
  decide

/-- V7.6 -/
theorem test_sta_rom_faults :
    stopsWith (start 0x11 0x00 0x00 0xFD 0x24 0x0600 [0x8D, 0x00, 0x80] []) .faulted (some ⟨.readOnlyViolation 0x8000 0x11, 0x0600, 0x8D⟩) 0x0600 = true := by
  decide

/-- V5.5 -/
theorem test_inc_rom_faults :
    stopsWith (start 0x00 0x00 0x00 0xFD 0x24 0x0600 [0xEE, 0x00, 0x80] []) .faulted (some ⟨.readOnlyViolation 0x8000 0x01, 0x0600, 0xEE⟩) 0x0600 = true := by
  decide

/-- V12.20 -/
theorem test_slo_rom_faults :
    stopsWith (start 0x01 0x00 0x00 0xFD 0x24 0x0600 [0x0F, 0x00, 0x80] [(0x8000, 0x81)]) .faulted (some ⟨.readOnlyViolation 0x8000 0x02, 0x0600, 0x0F⟩) 0x0600 = true := by
  decide

/-- V12.18 -/
theorem test_jam :
    stopsWith (start 0x00 0x00 0x00 0xFD 0x24 0x0600 [0x02] []) .jammed (some ⟨.jam, 0x0600, 0x02⟩) 0x0601 = true := by
  decide

/-- V12.19, R283 -/
theorem test_ane_faults :
    stopsWith (start 0x00 0x00 0x00 0xFD 0x24 0x0600 [0x8B, 0x00] []) .faulted (some ⟨.unmodelledOpcode, 0x0600, 0x8B⟩) 0x0600 = true := by
  decide

/-- V12.19, R283 -/
theorem test_lxa_faults :
    stopsWith (start 0x00 0x00 0x00 0xFD 0x24 0x0600 [0xAB, 0x00] []) .faulted (some ⟨.unmodelledOpcode, 0x0600, 0xAB⟩) 0x0600 = true := by
  decide

/-- V12.19, R283 -/
theorem test_sha_faults :
    stopsWith (start 0x00 0x00 0x00 0xFD 0x24 0x0600 [0x93, 0x00] []) .faulted (some ⟨.unmodelledOpcode, 0x0600, 0x93⟩) 0x0600 = true := by
  decide

/-- V12.19, R283 -/
theorem test_sha_absolute_faults :
    stopsWith (start 0x00 0x00 0x00 0xFD 0x24 0x0600 [0x9F, 0x00, 0x00] []) .faulted (some ⟨.unmodelledOpcode, 0x0600, 0x9F⟩) 0x0600 = true := by
  decide

/-- V12.19, R283 -/
theorem test_shy_faults :
    stopsWith (start 0x00 0x00 0x00 0xFD 0x24 0x0600 [0x9C, 0x00, 0x00] []) .faulted (some ⟨.unmodelledOpcode, 0x0600, 0x9C⟩) 0x0600 = true := by
  decide

/-- V12.19, R283 -/
theorem test_shx_faults :
    stopsWith (start 0x00 0x00 0x00 0xFD 0x24 0x0600 [0x9E, 0x00, 0x00] []) .faulted (some ⟨.unmodelledOpcode, 0x0600, 0x9E⟩) 0x0600 = true := by
  decide

/-- V12.19, R283 -/
theorem test_tas_faults :
    stopsWith (start 0x00 0x00 0x00 0xFD 0x24 0x0600 [0x9B, 0x00, 0x00] []) .faulted (some ⟨.unmodelledOpcode, 0x0600, 0x9B⟩) 0x0600 = true := by
  decide

/-- V13.1 -/
theorem test_sentinel_halts :
    stopsWith (start 0x00 0x00 0x00 0xFD 0x24 0xFFFF [] []) .halted none 0xFFFF = true := by
  decide

/-- V13.2: a stop request halts before the instruction at PC. -/
theorem test_stop_request_halts :
    stopsWith (start 0 0 0 0xFD 0x24 0x0600 [0xE8] []).requestStop .halted none 0x0600 = true := by
  decide

/-- V13.3: a jammed core has no step. -/
theorem test_jammed_has_no_step :
    (match step { State.reset with run := .jammed } with
      | .fault f => decide (f = .jammed none)
      | .next _ => false
      | .refused _ => false) = true := by
  decide

/-- V13.5: with 0x80 at PRG 0x3FFD, reset loads PC = 0x8000 and run = Idle. -/
theorem test_reset_reads_vector :
    (start 1 2 3 4 0xFF 0x0600 [] [(0xFFFD, 0x80)]).applyReset.pc = 0x8000 := by
  decide

/-- A state whose host drives 0x00FF and the interrupt lines. -/
def hostDriven (s : State) : State := { s with cfg := { s.cfg with hostCtrl := .any, intLines := .hostDriven } }

/-- V13.6: the controller byte is written before the fetch. -/
theorem test_controller_byte :
    (match stepWith 0x41 (hostDriven (start 0 0 0 0xFD 0x24 0x0600 [0xA5, 0xFF] [])) with
      | .next t => decide (t.a = 0x41)
      | .fault _ => false
      | .refused _ => false) = true := by
  decide

/-- A step of a host-driven state with these lines gives this PC, SP, P, latch and stacked bytes. -/
def interrupts (p : Byte) (irq nmi : Bool) (pc : Word) (latch : Bool) (cells : List (Word × Byte)) : Bool :=
  let s := hostDriven (start 0 0 0 0xFD p 0x1234 [0xE8] [(0xFFFF, 0x90), (0xFFFB, 0xA0)])
  match stepWith 0x00 { s with irq := irq, nmiPending := nmi } with
  | .next t =>
    decide (t.pc = pc) && decide (t.nmiPending = latch) && decide (t.flag .i = true) &&
      cells.all (fun c => decide (t.read c.1 = c.2))
  | .fault _ => false
  | .refused _ => false

/-- V14.1 -/
theorem test_irq : interrupts 0x20 true false 0x9000 false [(0x01FD, 0x12), (0x01FC, 0x34), (0x01FB, 0x20)] = true := by
  decide

/-- V14.2: masked, the instruction at PC runs. -/
theorem test_irq_masked : interrupts 0x24 true false 0x1235 false [] = true := by decide

/-- V14.3 -/
theorem test_nmi : interrupts 0x24 false true 0xA000 false [(0x01FD, 0x12), (0x01FC, 0x34), (0x01FB, 0x24)] = true := by
  decide

/-- V14.4: NMI first. -/
theorem test_nmi_before_irq : interrupts 0x20 true true 0xA000 false [] = true := by decide

/-- V15.3, V15.4, V15.5, V15.9 and R79, on images that stop before their body. -/
theorem test_loader_errors :
    loadImage (0x00 :: List.replicate 20 0) = .error .invalidImage ∧
    loadImage ([0x4E, 0x45, 0x53, 0x1A, 0, 0, 0, 0x04] ++ List.replicate 8 0) = .error .unsupportedFormat ∧
    loadImage ([0x00, 0x45, 0x53, 0x1A, 0, 0, 0, 0x04] ++ List.replicate 8 0) = .error .invalidImage ∧
    loadImage ([0x4E, 0x45, 0x53, 0x1A, 1, 0, 0, 0] ++ List.replicate 8 0) = .error .invalidImage ∧
    loadImage ([0x4E, 0x45, 0x53, 0x1A, 0, 0, 0x10, 0] ++ List.replicate 8 0) = .error .unsupportedConfiguration ∧
    loadImage (List.replicate 10 0) = .error .invalidImage := by
  decide

/-- The trace of `BD FF FF` before execution (60_exceptions.md R330, 30_encoding.md R112). -/
theorem test_trace_entry :
    (start 0x11 2 0 0xFD 0x24 0x0600 [0xBD, 0xFF, 0xFF] [(0x0001, 0x66)]).emittedTrace 0 =
      some ⟨0x0600, [0xBD, 0xFF, 0xFF], "LDA $FFFF,X @ 0001 = 66", 0x11, 2, 0, 0x24, 0xFD⟩ := by
  decide

/-- A table word is placed where the first step after reset fetches it, and runs (log 9). -/
theorem test_withFetchWord_runs :
    decodeTableWord 8 0xE8 = some .inx ∧
      (match step (State.reset.withFetchWord 8 0xE8) with
        | .next t => decide (t.x = 1 ∧ t.pc = State.reset.pc + 1)
        | .fault _ => false
        | .refused _ => false) = true := by
  decide

/-! Witnesses: for each statement of Certificates/Slice0/Obligations.lean that has hypotheses, a concrete state and
operands that meet all of them together, one for each clause, at a boundary of its range where it has one. -/

/-- A whole image: a header with one PRG bank, then 16384 bytes 0xEA. -/
def image16 : List Byte :=
  [0x4E, 0x45, 0x53, 0x1A, 1, 0, 0, 0, 0, 0, 0, 0, 0, 0, 0, 0] ++ List.replicate 16384 0xEA

theorem test_image16_length : image16.length = 16400 := by
  rw [image16, List.length_append, List.length_replicate]
  rfl

/-- V15.1: the image loads, with one PRG bank. -/
theorem test_image16_loads : loadImage image16 = .ok (imageCartridge image16 .kib16) := by
  have h4 : imageByte image16 4 = 1 := rfl
  have h5 : imageByte image16 5 = 0 := rfl
  have h6 : imageByte image16 6 = 0 := rfl
  have h7 : imageByte image16 7 = 0 := rfl
  have ht : image16.take 4 = imageMagic := rfl
  have hp : imagePrgLength image16 = 16384 := by simp [imagePrgLength, h4]
  simp [loadImage, headerLength, test_image16_length, ht, imageVersion, h7, imageTrainerLength, h6, hp, imageChrLength,
    h5, imageMapper, admittedPrgSize]

/-- ConstructionLoadsThenResets: an image that gives an error, one that loads, and a canonical RAM_INIT with a byte at
each end of RAM. -/
theorem test_witness_construction :
    loadImage [] = .error .invalidImage ∧ loadImage image16 = .ok (imageCartridge image16 .kib16) ∧
      Memory.wf [(0x0000, 0x01), (0x7FFF, 0x80)] = true ∧ InRam 0x0000 ∧ InRam 0x7FFF := by
  refine ⟨by decide, test_image16_loads, by decide, by unfold InRam; decide, by unfold InRam; decide⟩

/-- LoaderAdmitsExactlyTheWellFormedImages: an image for each clause (the last is one byte short of its PRG bank). -/
theorem test_witness_loader :
    (∃ cart, loadImage image16 = .ok cart) ∧
    loadImage (List.replicate 15 0) = .error .invalidImage ∧
    loadImage ([0x4E, 0x45, 0x53, 0x1A, 0, 0, 0, 0x08] ++ List.replicate 8 0) = .error .unsupportedFormat ∧
    loadImage ([0x4E, 0x45, 0x53, 0x1A, 0, 0, 0, 0xF0] ++ List.replicate 8 0) = .error .unsupportedConfiguration ∧
    loadImage (image16.take 16399) = .error .invalidImage := by
  refine ⟨⟨_, test_image16_loads⟩, by decide, by decide, by decide, ?_⟩
  have hl : (image16.take 16399).length = 16399 := by simp [test_image16_length]
  have h4 : imageByte (image16.take 16399) 4 = 1 := rfl
  have h5 : imageByte (image16.take 16399) 5 = 0 := rfl
  have h6 : imageByte (image16.take 16399) 6 = 0 := rfl
  have h7 : imageByte (image16.take 16399) 7 = 0 := rfl
  have ht : (image16.take 16399).take 4 = imageMagic := rfl
  have hp : imagePrgLength (image16.take 16399) = 16384 := by simp [imagePrgLength, h4]
  simp [loadImage, headerLength, hl, ht, imageVersion, h7, imageTrainerLength, h6, hp, imageChrLength, h5]

/-- LoadedCartridgeHoldsTheSlices. -/
theorem test_witness_slices : ∃ cart, loadImage image16 = .ok cart ∧ 16383 < cart.prgSize.bytes :=
  ⟨_, test_image16_loads, by decide⟩

/-- The reset state meets the invariant. -/
theorem test_reset_invariant : BoundaryInv State.reset := by
  unfold BoundaryInv
  refine ⟨by decide, by decide, by decide, by decide, by decide, ⟨by decide, by decide⟩, by decide⟩

/-- StepKeepsTheInvariant, HostOperationsKeepTheInvariant: a state that meets the invariant and has a step. -/
theorem test_witness_invariant :
    BoundaryInv State.reset ∧ ∃ t, step State.reset = .next t ∧ stepWith 0x41 State.reset = .next t :=
  ⟨test_reset_invariant, _, rfl, rfl⟩

/-- EveryRunOfAConstructedCoreKeepsTheInvariant, RomAndConfigurationNeverChange: a constructed core, a run of a host
operation, and an address of ROM. -/
theorem test_witness_runs :
    (∃ s, construct image16 [] none .any .hostDriven true = .ok s ∧
      s.afterMoves [.op .assertNmi, .op .requestStop] = some (s.assertNmi.requestStop)) ∧
    (∃ t, State.reset.afterMoves [.step 0x00, .op .reset, .step 0x41] = some t) ∧ ¬ InRam 0x8000 := by
  refine ⟨⟨_, by simp only [construct, test_image16_loads]; rfl, rfl⟩, ⟨_, rfl⟩, by unfold InRam; decide⟩

/-- StepRunsTheDecodedInstruction, TraceSnapshotHoldsTheStateBeforeExecution and
FetchedOperandsAreTheBytesAfterTheOpcode: LDA immediate at 0x0600, from Idle and from Running. -/
theorem test_witness_fetch :
    let s := start 0 0 0 0xFD 0x24 0x0600 [0xA9, 0x34] []
    (s.run = .idle ∧ s.stopReq = false ∧ s.pc ≠ 0xFFFF ∧ s.interruptPending = false ∧ s.boundary = .fetch ∧
      s.cfg.trace = true ∧ s.cfg.hostCtrl = .none ∧ decode (s.readyToFetch 0x41).fetchBytes = .ok (.ldaImm 0x34, [0x00])) ∧
    s.enterRunning.run = .running ∧
    decode (s.enterRunning.readyToFetch 0x41).fetchBytes = .ok (.ldaImm 0x34, [0x00]) ∧
    decode s.fetchBytes = .ok (.ldaImm 0x34, [0x00]) := by
  refine ⟨⟨rfl, rfl, by decide, rfl, by decide, rfl, rfl, rfl⟩, rfl, rfl, rfl⟩

/-- BoundaryEventsComeInOrder: a state for each clause. -/
theorem test_witness_boundary :
    State.reset.requestStop.stopReq = true ∧
    (start 0 0 0 0xFD 0x24 0xFFFF [] []).pc = 0xFFFF ∧
    (let s := hostDriven (start 0 0 0 0xFD 0x20 0x1234 [] []); s.stopReq = false ∧ s.pc ≠ 0xFFFF ∧
        s.cfg.intLines = .hostDriven ∧ s.assertNmi.nmiPending = true ∧
        ((s.setIrqLevel true).irq = true ∧ (s.setIrqLevel true).flag .i = false) ∧
        s.assertNmi.boundary = .interrupt ∧ (s.setIrqLevel true).boundary = .interrupt) ∧
    State.reset.cfg.intLines = .tiedInactive ∧
    State.reset.nmiPending = false ∧ State.reset.flag .i = true := by
  decide

/-- StoppedRunStatesHaveNoStep: a state for each run state, and a move it has. -/
theorem test_witness_stopped :
    State.reset.halt.run = .halted ∧ (State.reset.takeFault .unmodelledOpcode 0x8B).run = .faulted ∧
      (State.reset.takeJam 0x02).run = .jammed ∧
      State.reset.halt.afterMove (.op .reset) = some State.reset.halt.applyReset ∧
      State.reset.halt.afterMove (.op .requestStop) = some State.reset.halt.requestStop := by
  decide

/-- InterruptEntrySavesPcAndStatus: an IRQ, an NMI, and both. -/
theorem test_witness_interrupt :
    let s := hostDriven (start 0 0 0 0x00 0x20 0x1234 [] [])
    (s.setIrqLevel true).boundary = .interrupt ∧ s.assertNmi.boundary = .interrupt ∧
      (s.setIrqLevel true).assertNmi.boundary = .interrupt := by
  decide

/-- HostBoundaryWritesTheControllerByte: both values of HOST_CTRL. -/
theorem test_witness_host_ctrl :
    State.reset.cfg.hostCtrl = .none ∧ (hostDriven State.reset).cfg.hostCtrl = .any := by
  decide

/-- TraceParameterChangesNoStep: a next state, a state without a step, TRACE off, and each event that emits nothing. -/
theorem test_witness_trace :
    (∃ t, stepWith 0x00 State.reset = .next t) ∧ stepWith 0x00 State.reset.halt = .fault .halted ∧
      (State.reset.withTrace false).cfg.trace = false ∧ State.reset.requestStop.stopReq = true ∧
      (start 0 0 0 0xFD 0x24 0xFFFF [] []).pc = 0xFFFF ∧ (hostDriven State.reset).assertNmi.interruptPending = true := by
  refine ⟨⟨_, rfl⟩, rfl, rfl, rfl, rfl, rfl⟩

/-- DecodeOfEncodeIsTheInstruction, EncodeOfDecodeIsTheBytes, EncodingLengthIsTheModes: one instruction of each length
and one with an opcode field. -/
theorem test_witness_encoding :
    Instr.wellFormed .tax = true ∧ Instr.wellFormed (.ldaImm 0xFF) = true ∧ Instr.wellFormed (.jmpAbs 0xFFFF) = true ∧
      Instr.wellFormed (.nopAbsX 0xFC 0xFFFF) = true ∧ Instr.wellFormed (.nopAbsX 0xFD 0xFFFF) = false ∧
      decode [0xAA, 0x01] = .ok (.tax, [0x01]) ∧ decode [0xA9, 0xFF] = .ok (.ldaImm 0xFF, []) ∧
      decode [0xFC, 0xFF, 0xFF] = .ok (.nopAbsX 0xFC 0xFFFF, []) :=
  ⟨rfl, rfl, rfl, rfl, rfl, rfl, rfl, rfl⟩

/-- RomWindowShowsPrgMirrored: a cartridge of each size; the last offset of each window is below its bound. -/
theorem test_witness_rom_window :
    State.reset.cfg.cart.prgSize = .kib16 ∧
      (State.reset.setCfg { Config.atReset with cart := { Cartridge.blank with prgSize := .kib32 } }).cfg.cart.prgSize =
        .kib32 ∧ 0x3FFF < 0x4000 ∧ 0x7FFF < 0x8000 := by
  decide

/-- BusWriteChangesOneRamByteOrIsRefused, WordAccessesAreLittleEndian: the addresses where their clauses meet. -/
theorem test_witness_bus :
    InRam 0x7FFF ∧ ¬ InRam 0x8000 ∧ (0x7FFE : Word).toNat ≤ 0x7FFE ∧ 0x7FFF ≤ (0x7FFF : Word).toNat ∧
      (State.reset.write16 0x7FFE 0x1234).isSome = true ∧ (State.reset.write16 0x7FFF 0x1234).isNone = true := by
  refine ⟨by unfold InRam; decide, by unfold InRam; decide, by decide, by decide, by decide, by decide⟩

/-- PushesThenPopsReturnInReverse: the longest list that comes back whole, and SP at both ends of the page. -/
theorem test_witness_stack :
    (List.replicate 256 (0x5A : Byte)).length ≤ 256 ∧ (start 0 0 0 0x00 0x24 0x0600 [] []).sp = 0x00 ∧
      (start 0 0 0 0xFF 0x24 0x0600 [] []).sp = 0xFF := by
  refine ⟨le_of_eq List.length_replicate, rfl, rfl⟩

/-- AddressingModesResolve: a form that is not immediate. -/
theorem test_witness_modes : ∀ m, Operand.indY 0xFF ≠ .imm m := by
  intro m h
  cases h

/-- JmpIndirectHasThePageBug: a pointer on each side of the page end. -/
theorem test_witness_jmp_indirect : lo8 0x02FF = 0xFF ∧ lo8 0x02FE ≠ 0xFF := by decide

/-- LoadsSetTheRegisterAndZN, LogicCombinesAWithM, BitTestsTheOperand, AdcAddsWithCarry, SbcSubtractsWithBorrow,
ComparesSetCarryAndZN, CombinedLoads, NopsChangeOnlyPc: a form of each mnemonic. -/
theorem test_witness_read_forms :
    (.ldaIndY 0xFF, .indY 0xFF) ∈ ldaForms 0xFF 0xFFFF ∧ (.ldxZpY 0xFF, .zpY 0xFF) ∈ ldxForms 0xFF 0xFFFF ∧
      (.ldyAbsX 0xFFFF, .absX 0xFFFF) ∈ ldyForms 0xFF 0xFFFF ∧ (.andImm 0xFF, .imm 0xFF) ∈ andForms 0xFF 0xFFFF ∧
      (.oraZpX 0xFF, .zpX 0xFF) ∈ oraForms 0xFF 0xFFFF ∧ (.eorIndX 0xFF, .indX 0xFF) ∈ eorForms 0xFF 0xFFFF ∧
      (.bitAbs 0xFFFF, .abs 0xFFFF) ∈ bitForms 0xFF 0xFFFF ∧ (.adcZp 0xFF, .zp 0xFF) ∈ adcForms 0xFF 0xFFFF ∧
      (.sbcAbsY 0xFFFF, .absY 0xFFFF) ∈ sbcForms 0xFF 0xFFFF ++ usbcForms 0xFF 0xFFFF ∧
      (.usbcImm 0xFF, .imm 0xFF) ∈ sbcForms 0xFF 0xFFFF ++ usbcForms 0xFF 0xFFFF ∧
      (.cmpImm 0xFF, .imm 0xFF) ∈ cmpForms 0xFF 0xFFFF ∧ (.cpxZp 0xFF, .zp 0xFF) ∈ cpxForms 0xFF 0xFFFF ∧
      (.cpyAbs 0xFFFF, .abs 0xFFFF) ∈ cpyForms 0xFF 0xFFFF ∧ (.laxIndY 0xFF, .indY 0xFF) ∈ laxForms 0xFF 0xFFFF ∧
      (.lasAbsY 0xFFFF, .absY 0xFFFF) ∈ lasForms 0xFF 0xFFFF ∧
      (.nopAbsX 0xFC 0xFFFF, .absX 0xFFFF) ∈ nopForms 0xFC 0xFF 0xFFFF := by
  simp [ldaForms, ldxForms, ldyForms, andForms, oraForms, eorForms, bitForms, adcForms, sbcForms, usbcForms, cmpForms,
    cpxForms, cpyForms, laxForms, lasForms, nopForms]

/-- StoresWriteOneRamByte and WritesToRomFaultPrecisely: a form of each mnemonic, in RAM by 0x7FFF and in ROM by 0x8000. -/
theorem test_witness_write_forms :
    InRam ((Operand.abs 0x7FFF).ea State.reset) ∧ ¬ InRam ((Operand.abs 0x8000).ea State.reset) ∧
      ∀ w : Word,
        (.staAbs w, .abs w) ∈ staForms 0xFF w ∧ (.stxAbs w, .abs w) ∈ stxForms 0xFF w ∧
        (.styAbs w, .abs w) ∈ styForms 0xFF w ∧ (.saxAbs w, .abs w) ∈ saxForms 0xFF w ∧
        (.incAbs w, .abs w) ∈ incForms 0xFF w ++ isbForms 0xFF w ∧ (.isbAbs w, .abs w) ∈ incForms 0xFF w ++ isbForms 0xFF w ∧
        (.decAbs w, .abs w) ∈ decForms 0xFF w ++ dcpForms 0xFF w ∧ (.dcpAbs w, .abs w) ∈ decForms 0xFF w ++ dcpForms 0xFF w ∧
        (.aslAbs w, .abs w) ∈ aslForms 0xFF w ++ sloForms 0xFF w ∧ (.sloAbs w, .abs w) ∈ aslForms 0xFF w ++ sloForms 0xFF w ∧
        (.lsrAbs w, .abs w) ∈ lsrForms 0xFF w ++ sreForms 0xFF w ∧ (.sreAbs w, .abs w) ∈ lsrForms 0xFF w ++ sreForms 0xFF w ∧
        (.rolAbs w, .abs w) ∈ rolForms 0xFF w ++ rlaForms 0xFF w ∧ (.rlaAbs w, .abs w) ∈ rolForms 0xFF w ++ rlaForms 0xFF w ∧
        (.rorAbs w, .abs w) ∈ rorForms 0xFF w ++ rraForms 0xFF w ∧ (.rraAbs w, .abs w) ∈ rorForms 0xFF w ++ rraForms 0xFF w := by
  refine ⟨by unfold InRam; decide, by unfold InRam; decide, ?_⟩
  simp [staForms, stxForms, styForms, saxForms, incForms, isbForms, decForms, dcpForms, aslForms, sloForms, lsrForms,
    sreForms, rolForms, rlaForms, rorForms, rraForms]

/-- IncrementsAndDecrementsWrap, ShiftsMoveOneBitThroughCarry, ShiftAndCombineOpcodes, CountAndCombineOpcodes and
AccumulatorShiftsMoveOneBitThroughCarry: the byte 0xFF at 0x7FFF with C set, and each result. -/
theorem test_witness_modify :
    let s := start 0xFF 0 0 0xFD 0x25 0x0600 [] [(0x7FFF, 0xFF)]
    let o := Operand.abs 0x7FFF
    InRam (o.ea s) ∧ o.value s = 0xFF ∧ (s.flag .c).toNat = 1 ∧
      ((.incAbs 0x7FFF, o) ∈ incForms 0 0x7FFF ∧ (0x00 : Byte).toNat = ((o.value s).toNat + 1) % 256) ∧
      ((.decAbs 0x7FFF, o) ∈ decForms 0 0x7FFF ∧ (0xFE : Byte).toNat = ((o.value s).toNat + 255) % 256) ∧
      ((.aslAbs 0x7FFF, o) ∈ aslForms 0 0x7FFF ∧ (0xFE : Byte).toNat = 2 * (o.value s).toNat % 256) ∧
      ((.lsrAbs 0x7FFF, o) ∈ lsrForms 0 0x7FFF ∧ (0x7F : Byte).toNat = (o.value s).toNat / 2) ∧
      ((.rolAbs 0x7FFF, o) ∈ rolForms 0 0x7FFF ∧ (0xFF : Byte).toNat = (2 * (o.value s).toNat + 1) % 256) ∧
      ((.rorAbs 0x7FFF, o) ∈ rorForms 0 0x7FFF ∧ (0xFF : Byte).toNat = (o.value s).toNat / 2 + 128 * 1) ∧
      ((.sloAbs 0x7FFF, o) ∈ sloForms 0 0x7FFF ∧ (0xFE : Byte) = o.value s <<< 1 ∧ (0xFF : Byte) = s.a ||| 0xFE) ∧
      ((.rlaAbs 0x7FFF, o) ∈ rlaForms 0 0x7FFF ∧ (0xFF : Byte) = (o.value s <<< 1) ||| 1 ∧ (0xFF : Byte) = s.a &&& 0xFF) ∧
      ((.sreAbs 0x7FFF, o) ∈ sreForms 0 0x7FFF ∧ (0x7F : Byte) = o.value s >>> 1 ∧ (0x80 : Byte) = s.a ^^^ 0x7F) ∧
      (.rraAbs 0x7FFF, o) ∈ rraForms 0 0x7FFF ∧ (.dcpAbs 0x7FFF, o) ∈ dcpForms 0 0x7FFF ∧
      (.isbAbs 0x7FFF, o) ∈ isbForms 0 0x7FFF := by
  refine ⟨by unfold InRam; decide, by decide, by decide, ?_, ?_, ?_, ?_, ?_, ?_, ?_, ?_, ?_, ?_, ?_, ?_⟩
  case refine_10 => exact List.mem_of_getElem? (i := 2) rfl
  case refine_11 => exact List.mem_of_getElem? (i := 2) rfl
  case refine_12 => exact List.mem_of_getElem? (i := 2) rfl
  case refine_7 => exact ⟨List.mem_of_getElem? (i := 2) rfl, by decide, by decide⟩
  case refine_8 => exact ⟨List.mem_of_getElem? (i := 2) rfl, by decide, by decide⟩
  case refine_9 => exact ⟨List.mem_of_getElem? (i := 2) rfl, by decide, by decide⟩
  all_goals exact ⟨List.mem_of_getElem? (i := 1) rfl, by decide⟩

/-- JamLocksTheCore: the first and the last JAM opcode. -/
theorem test_witness_jam : (0x02 : Byte) ∈ jamOpcodes ∧ (0xF2 : Byte) ∈ jamOpcodes := by decide

/-- NonOwningInstructionsAdvancePcByTheirLength, OnlyRomWritesJamsAndUnstableOpcodesStop: an instruction that owns PC
not, and one of each status. -/
theorem test_witness_descriptors :
    (Instr.wellFormed (.staAbs 0x8000) = true ∧
      (descriptorOf (.staAbs 0x8000)).map (fun d => (d.mnemonic, d.mode, d.pcOwning, d.status)) =
        some ("STA", .absolute, false, .executes)) ∧
    (Instr.wellFormed (.jam 0x02) = true ∧ (descriptorOf (.jam 0x02)).map (fun d => d.status) = some .jams) ∧
    (Instr.wellFormed (.tasAbsY 0xFFFF) = true ∧
      (descriptorOf (.tasAbsY 0xFFFF)).map (fun d => (d.status, d.pcOwning)) = some (.faults, false)) := by
  decide

/-- BranchesTestOneFlag, FlagInstructionsWriteOneFlag, UnstableOpcodesRaiseUnmodelledOpcode: each takes an equation as
its hypothesis, met by the instruction it names; here one of each, with the value it needs. -/
theorem test_witness_named :
    (Instr.beq 0xFE = .beq 0xFE ∧ State.reset.flag .z = false) ∧ (Instr.sed = .sed ∧ Flag.d = .d) ∧
      (Instr.tasAbsY 0xFFFF = .tasAbsY 0xFFFF ∧ (0x9B : Byte) = 0x9B) := by
  decide

end Sys2Proof.Tests
end

section
/-! PROOF. The ROM window and the configuration are constant (00_scope.md R8, 10_state.md R43, R44, 20_memory.md R56).
The one idea: no step and no host operation writes the field `cfg`, and a byte outside RAM is read from `cfg` alone. -/

namespace Sys2Proof.Machine

/-! What each operation does to the configuration: nothing. -/

@[simp] theorem State.pushWord_cfg (s : State) (w : Word) : (s.pushWord w).cfg = s.cfg := by
  rw [State.pushWord_eq]
@[simp] theorem State.popWord_cfg (s : State) : s.popWord.2.cfg = s.cfg := by
  rw [State.popWord_eq]
@[simp] theorem State.takeFault_cfg (s : State) (kind : FaultKind) (opcode : Byte) :
    (s.takeFault kind opcode).cfg = s.cfg := rfl
@[simp] theorem State.takeJam_cfg (s : State) (opcode : Byte) : (s.takeJam opcode).cfg = s.cfg := rfl
@[simp] theorem State.decodeMiss_cfg (s : State) : s.decodeMiss.cfg = s.cfg := rfl
@[simp] theorem State.enterHandler_cfg (s : State) (ret : Word) (pushedP : Byte) (vector : Word) :
    (s.enterHandler ret pushedP vector).cfg = s.cfg := by
  rw [State.enterHandler_eq]
@[simp] theorem State.returnFromHandler_cfg (s : State) : s.returnFromHandler.cfg = s.cfg := by
  simp [State.returnFromHandler, State.restoreP, State.pop_eq]
@[simp] theorem State.advance_cfg (s : State) (length : Word) : (s.advance length).cfg = s.cfg := rfl
@[simp] theorem State.halt_cfg (s : State) : s.halt.cfg = s.cfg := rfl
@[simp] theorem State.enterRunning_cfg (s : State) : s.enterRunning.cfg = s.cfg := rfl

@[simp] theorem State.interruptEntry_cfg (s : State) : s.interruptEntry.cfg = s.cfg := by
  unfold State.interruptEntry
  split <;> simp

@[simp] theorem State.hostBoundary_cfg (s : State) (ctrl : Byte) : (s.hostBoundary ctrl).cfg = s.cfg := by
  unfold State.hostBoundary
  split <;> rfl

@[simp] theorem State.readyToFetch_cfg (s : State) (ctrl : Byte) : (s.readyToFetch ctrl).cfg = s.cfg :=
  State.hostBoundary_cfg s.enterRunning ctrl

@[simp] theorem State.afterHost_cfg (s : State) (o : HostOp) : (s.afterHost o).cfg = s.cfg := by
  cases o with
  | reset => rfl
  | requestStop => rfl
  | setIrq level => simp only [State.afterHost, State.setIrqLevel]; split <;> rfl
  | assertNmi => simp only [State.afterHost, State.assertNmi]; split <;> rfl

/-! What an instruction does to the configuration, shape by shape. -/

theorem ImpliedHandler.cfg_eq {h : State → State} (hh : ImpliedHandler h) (s : State) : (h s).cfg = s.cfg := by
  cases hh <;> rfl

theorem ReadHandler.cfg_eq {h : Byte → State → State} (hh : ReadHandler h) (m : Byte) (s : State) :
    (h m s).cfg = s.cfg := by
  cases hh <;> rfl

theorem ModifyHandler.cfg_eq {f : Byte → Bool → Byte × Bool} {h : Byte → Bool → State → State}
    (hh : ModifyHandler f h) (r : Byte) (c : Bool) (s : State) : (h r c s).cfg = s.cfg := by
  cases hh <;> rfl

/-- A write instruction keeps the configuration when what follows its write does, whether it writes or faults. -/
theorem runWrite_cfg {opcode : Byte} {o : Operand} {v : Byte} {after : State → State} {s t : State}
    (hafter : ∀ u, (after u).cfg = u.cfg) (h : runWrite opcode o v after s = .next t) : t.cfg = s.cfg := by
  obtain ⟨-, rfl⟩ | ⟨-, rfl⟩ := runWrite_cases h
  · simp [hafter]
  · simp

theorem exec_cfg {i : Instr} {s t : State} (h : exec i s = .next t) : t.cfg = s.cfg := by
  cases exec_shape i with
  | implied hh he => cases (he s).symm.trans h; exact hh.cfg_eq s
  | read hh he => cases (he s).symm.trans h; exact hh.cfg_eq _ s
  | store _ he => exact runWrite_cfg (fun _ => rfl) ((he s).symm.trans h)
  | modify hh he => exact runWrite_cfg (hh.cfg_eq _ _) ((he s).symm.trans h)
  | branch _ he => cases (he s).symm.trans h; simp
  | jump he => cases (he s).symm.trans h; simp
  | jumpThrough he => cases (he s).symm.trans h; simp
  | call he => cases (he s).symm.trans h; simp
  | ret he => cases (he s).symm.trans h; simp
  | breakTo he => cases (he s).symm.trans h; simp
  | fromHandler he => cases (he s).symm.trans h; simp
  | fault he => cases (he s).symm.trans h; simp
  | jam he => cases (he s).symm.trans h; simp

/-! What a step and a run can do. -/

/-- A fetch that answers a next state ran the decoded instruction, or missed in the table (60_exceptions.md R304). -/
theorem fetchAndExec_cases {s t : State} (h : fetchAndExec s = .next t) :
    (∃ i rest, decode s.fetchBytes = .ok (i, rest) ∧ exec i s = .next t) ∨
    (∃ e, decode s.fetchBytes = .error e ∧ t = s.decodeMiss) := by
  unfold fetchAndExec at h
  split at h
  next i rest hd => exact .inl ⟨i, rest, hd, h⟩
  next e hd => cases h; exact .inr ⟨e, hd, rfl⟩

/-- A step that answers a next state halted, took an interrupt, or fetched (40_core_and_addressing.md R120). -/
theorem stepWith_cases {ctrl : Byte} {s t : State} (h : stepWith ctrl s = .next t) :
    (s.boundary = .halt ∧ t = s.halt) ∨
    (s.boundary = .interrupt ∧ t = s.enterRunning.interruptEntry) ∨
    (s.boundary = .fetch ∧ fetchAndExec (s.readyToFetch ctrl) = .next t) := by
  unfold stepWith at h
  split at h
  next => cases h
  next hb => cases h; exact .inl ⟨hb, rfl⟩
  next hb => cases h; exact .inr (.inl ⟨hb, rfl⟩)
  next hb => exact .inr (.inr ⟨hb, h⟩)

/-- A step move answers a state exactly when the step does. -/
theorem State.afterMove_step {s t : State} {ctrl : Byte} :
    s.afterMove (.step ctrl) = some t ↔ stepWith ctrl s = .next t := by
  simp only [State.afterMove]
  split <;> simp_all

/-- What every step and every host operation keeps holds at the end of every run (70_reset_and_hazards.md R357). -/
theorem State.afterMoves_keeps {P : State → Prop}
    (hstep : ∀ {ctrl : Byte} {s t : State}, P s → stepWith ctrl s = .next t → P t)
    (hop : ∀ {s : State} (o : HostOp), P s → P (s.afterHost o)) {s t : State} {moves : List HostMove}
    (hs : P s) (h : s.afterMoves moves = some t) : P t := by
  induction moves generalizing s with
  | nil => cases h; exact hs
  | cons m ms ih =>
    obtain ⟨u, hm, hms⟩ := Option.bind_eq_some_iff.mp h
    refine ih ?_ hms
    cases m with
    | step ctrl => exact hstep hs (State.afterMove_step.mp hm)
    | op o => cases hm; exact hop o hs

theorem fetchAndExec_cfg {s t : State} (h : fetchAndExec s = .next t) : t.cfg = s.cfg := by
  obtain ⟨i, rest, -, hexec⟩ | ⟨e, -, rfl⟩ := fetchAndExec_cases h
  · exact exec_cfg hexec
  · simp

theorem stepWith_cfg {ctrl : Byte} {s t : State} (h : stepWith ctrl s = .next t) : t.cfg = s.cfg := by
  obtain ⟨-, rfl⟩ | ⟨-, rfl⟩ | ⟨-, hfetch⟩ := stepWith_cases h
  · simp
  · simp
  · simpa using fetchAndExec_cfg hfetch

theorem State.afterMoves_cfg {s t : State} {moves : List HostMove} (h : s.afterMoves moves = some t) :
    t.cfg = s.cfg :=
  State.afterMoves_keeps (P := fun u => u.cfg = s.cfg)
    (fun hu hstep => (stepWith_cfg hstep).trans hu) (fun o hu => (State.afterHost_cfg _ o).trans hu) rfl h

/-- A byte outside RAM depends on the configuration alone (20_memory.md R52, R54). -/
theorem State.read_rom_congr {s t : State} (hcfg : t.cfg = s.cfg) {addr : Word} (haddr : ¬ InRam addr) :
    t.read addr = s.read addr := by
  rw [State.read_rom t haddr, State.read_rom s haddr, hcfg]

/-- Settles O10: `cfg` is kept by every step (through the shapes of `exec_shape`) and by every host operation, hence
along every run, and the ROM window is read from it. -/
theorem romAndConfigurationNeverChange : Obligations.RomAndConfigurationNeverChange := by
  unfold Obligations.RomAndConfigurationNeverChange
  intro s t moves h
  have hcfg : t.cfg = s.cfg := State.afterMoves_cfg h
  exact ⟨hcfg, fun _ haddr => State.read_rom_congr hcfg haddr⟩

end Sys2Proof.Machine
end

section
/-! PROOF. The state after reset, and the invariant of the fetch boundary, which holds of it and which every step keeps
(10_state.md R27, R28, R39, R40, R42, R47, 60_exceptions.md R306, R309). The one idea: each operation of the register
file, the stack, the handlers and the boundary keeps the invariant, so whatever is composed of them keeps it. An
instruction leaves run, the record and the lines alone until it faults or jams, which sets run and the record
together. -/

namespace Sys2Proof.Machine

/-- Settles O1: each field is a value of `State.reset`, and its PC is read from the vector in the blank cartridge. -/
theorem resetStateHoldsTheResetValues : Obligations.ResetStateHoldsTheResetValues := by
  unfold Obligations.ResetStateHoldsTheResetValues
  have hpc : State.reset.pc = State.reset.read16 0xFFFC := by decide
  exact ⟨rfl, rfl, rfl, rfl, rfl, rfl, rfl, rfl, rfl, rfl, hpc⟩

/-- Settles O6: every clause is a closed fact of `State.reset`. -/
theorem resetStateMeetsTheInvariant : Obligations.ResetStateMeetsTheInvariant := by
  unfold Obligations.ResetStateMeetsTheInvariant BoundaryInv
  have h5 : State.reset.p.getLsbD 5 = true := by decide
  have h4 : State.reset.p.getLsbD 4 = false := by decide
  have hcfg : State.reset.cfg.wellFormed = true := by decide
  have hrecord : RecordFits State.reset.run State.reset.fault := ⟨by decide, by decide⟩
  exact ⟨h5, h4, rfl, rfl, hcfg, hrecord, fun _ => ⟨rfl, rfl⟩⟩

/-! The invariant after each operation of the register file. -/

section
variable {s : State} (hs : BoundaryInv s)
include hs

theorem BoundaryInv.setA (v : Byte) : BoundaryInv (s.setA v) := hs
theorem BoundaryInv.setX (v : Byte) : BoundaryInv (s.setX v) := hs
theorem BoundaryInv.setY (v : Byte) : BoundaryInv (s.setY v) := hs
theorem BoundaryInv.setSP (v : Byte) : BoundaryInv (s.setSP v) := hs
theorem BoundaryInv.setPC (v : Word) : BoundaryInv (s.setPC v) := hs
theorem BoundaryInv.setCtrlDraws (n : Nat) : BoundaryInv (s.setCtrlDraws n) := hs

/-- P may be replaced by any byte with bit 5 set and B clear (10_state.md R27, R28). -/
theorem BoundaryInv.withP {p : Byte} (h5 : p.getLsbD 5 = true) (h4 : p.getLsbD 4 = false) :
    BoundaryInv { s with p := p } := by
  obtain ⟨-, -, hwf, hbelow, hcfg, hrecord, htied⟩ := hs
  exact ⟨h5, h4, hwf, hbelow, hcfg, hrecord, htied⟩

/-- A RAM byte may be written (10_state.md R42). -/
theorem BoundaryInv.writeRam {k : Nat} (hk : k < 0x8000) (v : Byte) :
    BoundaryInv (s.setRam (s.ram.write k v)) := by
  obtain ⟨h5, h4, hwf, hbelow, hcfg, hrecord, htied⟩ := hs
  exact ⟨h5, h4, Memory.wf_write hwf k v, Memory.below_write hbelow hk v, hcfg, hrecord, htied⟩

/-- Run and the record may be replaced together, by a pair that fits (10_state.md R39). -/
theorem BoundaryInv.setRun_setFault {run : RunState} {fault : Option FaultRecord} (hfits : RecordFits run fault) :
    BoundaryInv ((s.setRun run).setFault fault) := by
  obtain ⟨h5, h4, hwf, hbelow, hcfg, -, htied⟩ := hs
  exact ⟨h5, h4, hwf, hbelow, hcfg, hfits, htied⟩

/-- The NMI latch may be cleared. -/
theorem BoundaryInv.clearNmiPending : BoundaryInv (s.setNmiPending false) := by
  obtain ⟨h5, h4, hwf, hbelow, hcfg, hrecord, htied⟩ := hs
  exact ⟨h5, h4, hwf, hbelow, hcfg, hrecord, fun h => ⟨(htied h).1, rfl⟩⟩

/-! The invariant after each flag computation, stack operation and handler. -/

/-- Any flag but B may be written: no opcode writes the stored B (10_state.md R28). -/
theorem BoundaryInv.putFlag {f : Flag} (hf : f ≠ .b) (on : Bool) : BoundaryInv (s.putFlag f on) := by
  have ⟨_, h4, _⟩ := hs
  exact hs.withP (State.putFlag_bit5 s f on) ((State.putFlag_bit4 s hf on).trans h4)

theorem BoundaryInv.setZN (r : Byte) : BoundaryInv (s.setZN r) :=
  (hs.putFlag (by decide) _).putFlag (by decide) _

theorem BoundaryInv.addWithCarry (m : Byte) : BoundaryInv (s.addWithCarry m) :=
  (((hs.putFlag (f := .c) (by decide) _).putFlag (f := .v) (by decide) _).setA _).setZN _

theorem BoundaryInv.compare (reg m : Byte) : BoundaryInv (s.compare reg m) :=
  (hs.putFlag (by decide) _).setZN _

theorem BoundaryInv.shiftFlags (r : Byte) (c : Bool) : BoundaryInv (s.shiftFlags r c) :=
  (hs.putFlag (by decide) c).setZN r

theorem BoundaryInv.push (v : Byte) : BoundaryInv (s.push v) :=
  (hs.writeRam (stackAddr_lt s.sp) v).setSP _

theorem BoundaryInv.pop : BoundaryInv s.pop.2 := hs.setSP _

theorem BoundaryInv.pushWord (w : Word) : BoundaryInv (s.pushWord w) := (hs.push _).push _

theorem BoundaryInv.popWord : BoundaryInv s.popWord.2 := hs.pop.pop

/-- Restoring P clears B and sets bit 5 of whatever byte was pulled (42_stack.md R173). -/
theorem BoundaryInv.restoreP (v : Byte) : BoundaryInv (s.restoreP v) :=
  hs.withP (State.setP_bit5 s _) (by simp)

theorem BoundaryInv.enterHandler (ret : Word) (pushedP : Byte) (vector : Word) :
    BoundaryInv (s.enterHandler ret pushedP vector) :=
  (((hs.pushWord ret).push pushedP).putFlag (by decide) true).setPC _

theorem BoundaryInv.returnFromHandler : BoundaryInv s.returnFromHandler :=
  ((hs.pop.restoreP _).popWord).setPC _

theorem BoundaryInv.advance (length : Word) : BoundaryInv (s.advance length) := hs.setPC _

/-- A fault sets run and a record that fits it (60_exceptions.md R306). -/
theorem BoundaryInv.takeFault {kind : FaultKind} (hk : kind ≠ .jam) (opcode : Byte) :
    BoundaryInv (s.takeFault kind opcode) :=
  hs.setRun_setFault (by simp [RecordFits, hk])

/-- A jam sets run and a record that fits it (60_exceptions.md R309). -/
theorem BoundaryInv.takeJam (opcode : Byte) : BoundaryInv (s.takeJam opcode) :=
  (hs.setRun_setFault (by simp [RecordFits])).setPC _

/-! The invariant at the fetch boundary. -/

/-- A state that has a step has no record (10_state.md R39). -/
theorem BoundaryInv.fault_none (hrun : s.run = .idle ∨ s.run = .running) : s.fault = none := by
  obtain ⟨-, -, -, -, -, hrecord, -⟩ := hs
  cases hf : s.fault with
  | none => rfl
  | some r =>
    rw [hf, RecordFits] at hrecord
    split at hrecord <;> simp [hrecord] at hrun

theorem BoundaryInv.setRun {run : RunState} (hold : s.run = .idle ∨ s.run = .running)
    (hnew : run ≠ .faulted ∧ run ≠ .jammed) : BoundaryInv (s.setRun run) := by
  have h := hs.setRun_setFault (fault := none) hnew
  rwa [← hs.fault_none hold] at h

theorem BoundaryInv.interruptEntry : BoundaryInv s.interruptEntry := by
  unfold State.interruptEntry
  split
  · exact hs.clearNmiPending.enterHandler _ _ _
  · exact hs.enterHandler _ _ _

theorem BoundaryInv.hostBoundary (ctrl : Byte) : BoundaryInv (s.hostBoundary ctrl) := by
  unfold State.hostBoundary
  split
  · exact hs
  · exact (hs.writeRam (by decide) ctrl).setCtrlDraws _

end

/-! The invariant after what an instruction does, shape by shape. -/

theorem ImpliedHandler.keeps_inv {h : State → State} (hh : ImpliedHandler h) {s : State} (hs : BoundaryInv s) :
    BoundaryInv (h s) := by
  cases hh with
  | nothing => exact hs
  | pushA => exact hs.push _
  | pushP => exact hs.push _
  | pullA => exact (hs.pop.setA _).setZN _
  | pullP => exact hs.pop.restoreP _
  | shiftAAslStep => exact (hs.setA _).shiftFlags _ _
  | shiftALsrStep => exact (hs.setA _).shiftFlags _ _
  | shiftARolStep => exact (hs.setA _).shiftFlags _ _
  | shiftARorStep => exact (hs.setA _).shiftFlags _ _
  | clearC => exact hs.putFlag (by decide) _
  | clearI => exact hs.putFlag (by decide) _
  | clearD => exact hs.putFlag (by decide) _
  | clearV => exact hs.putFlag (by decide) _
  | setC => exact hs.putFlag (by decide) _
  | setI => exact hs.putFlag (by decide) _
  | setD => exact hs.putFlag (by decide) _
  | incrementX => exact (hs.setX _).setZN _
  | incrementY => exact (hs.setY _).setZN _
  | decrementX => exact (hs.setX _).setZN _
  | decrementY => exact (hs.setY _).setZN _
  | transferAX => exact (hs.setX _).setZN _
  | transferSX => exact (hs.setX _).setZN _
  | transferAY => exact (hs.setY _).setZN _
  | transferXA => exact (hs.setA _).setZN _
  | transferYA => exact (hs.setA _).setZN _
  | transferXS => exact hs.setSP _

theorem ReadHandler.keeps_inv {h : Byte → State → State} (hh : ReadHandler h) (m : Byte) {s : State}
    (hs : BoundaryInv s) : BoundaryInv (h m s) := by
  cases hh with
  | ignoreOperand => exact hs
  | loadA => exact (hs.setA _).setZN _
  | loadX => exact (hs.setX _).setZN _
  | loadY => exact (hs.setY _).setZN _
  | loadAX => exact ((hs.setA _).setX _).setZN _
  | loadAXS => exact (((hs.setA _).setX _).setSP _).setZN _
  | orA => exact (hs.setA _).setZN _
  | andA => exact (hs.setA _).setZN _
  | xorA => exact (hs.setA _).setZN _
  | addA => exact hs.addWithCarry _
  | subtractA => exact hs.addWithCarry _
  | compareA => exact hs.compare _ _
  | compareX => exact hs.compare _ _
  | compareY => exact hs.compare _ _
  | testBits =>
    exact ((hs.putFlag (f := .z) (by decide) _).putFlag (f := .v) (by decide) _).putFlag (by decide) _
  | andCarry => exact ((hs.setA _).setZN _).putFlag (by decide) _
  | andShift => exact ((hs.putFlag (by decide) _).setA _).setZN _
  | andRotate => exact (((hs.setA _).setZN _).putFlag (f := .c) (by decide) _).putFlag (by decide) _
  | subtractX => exact ((hs.putFlag (by decide) _).setX _).setZN _

theorem ModifyHandler.keeps_inv {f : Byte → Bool → Byte × Bool} {h : Byte → Bool → State → State}
    (hh : ModifyHandler f h) (r : Byte) (c : Bool) {s : State} (hs : BoundaryInv s) : BoundaryInv (h r c s) := by
  have hcarry : BoundaryInv (s.putFlag .c c) := hs.putFlag (by decide) c
  cases hh with
  | aslStepShiftThenOr => exact ReadHandler.orA.keeps_inv r hcarry
  | rolStepRotateThenAnd => exact ReadHandler.andA.keeps_inv r hcarry
  | lsrStepShiftThenXor => exact ReadHandler.xorA.keeps_inv r hcarry
  | rorStepRotateThenAdd => exact ReadHandler.addA.keeps_inv r hcarry
  | aslStepSetShifted => exact hs.shiftFlags r c
  | rolStepSetShifted => exact hs.shiftFlags r c
  | lsrStepSetShifted => exact hs.shiftFlags r c
  | rorStepSetShifted => exact hs.shiftFlags r c
  | decrementCompareCounted => exact hs.compare _ r
  | incrementSubtractCounted => exact hs.addWithCarry _
  | decrementSetCounted => exact hs.setZN r
  | incrementSetCounted => exact hs.setZN r

/-- A write instruction keeps the invariant when what follows its write does, whether it writes or faults. -/
theorem runWrite_keeps_inv {opcode : Byte} {o : Operand} {v : Byte} {after : State → State} {s t : State}
    (hs : BoundaryInv s) (hafter : ∀ {u}, BoundaryInv u → BoundaryInv (after u))
    (h : runWrite opcode o v after s = .next t) : BoundaryInv t := by
  obtain ⟨hram, rfl⟩ | ⟨-, rfl⟩ := runWrite_cases h
  · exact (hafter (hs.writeRam hram v)).advance _
  · exact hs.takeFault (by simp) opcode

theorem exec_keeps_inv {i : Instr} {s t : State} (hs : BoundaryInv s) (h : exec i s = .next t) :
    BoundaryInv t := by
  cases exec_shape i with
  | implied hh he => cases (he s).symm.trans h; exact (hh.keeps_inv hs).advance _
  | read hh he => cases (he s).symm.trans h; exact (hh.keeps_inv _ hs).advance _
  | store _ he => exact runWrite_keeps_inv hs id ((he s).symm.trans h)
  | modify hh he => exact runWrite_keeps_inv hs (hh.keeps_inv _ _) ((he s).symm.trans h)
  | branch _ he => cases (he s).symm.trans h; exact hs.setPC _
  | jump he => cases (he s).symm.trans h; exact hs.setPC _
  | jumpThrough he => cases (he s).symm.trans h; exact hs.setPC _
  | call he => cases (he s).symm.trans h; exact (hs.pushWord _).setPC _
  | ret he => cases (he s).symm.trans h; exact hs.popWord.setPC _
  | breakTo he => cases (he s).symm.trans h; exact hs.enterHandler _ _ _
  | fromHandler he => cases (he s).symm.trans h; exact hs.returnFromHandler
  | fault he => cases (he s).symm.trans h; exact hs.takeFault (by simp) _
  | jam he => cases (he s).symm.trans h; exact hs.takeJam _

/-! The invariant after a step. -/

/-- Only Idle and Running have a step (70_reset_and_hazards.md R354, R355, R356). -/
theorem State.run_of_boundary {s : State} (h : ∀ why, s.boundary ≠ .noStep why) :
    s.run = .idle ∨ s.run = .running := by
  unfold State.boundary at h
  cases hrun : s.run with
  | idle => exact .inl rfl
  | running => exact .inr rfl
  | halted => simp [hrun] at h
  | faulted => simp [hrun] at h
  | jammed => simp [hrun] at h

theorem fetchAndExec_keeps_inv {s t : State} (hs : BoundaryInv s) (h : fetchAndExec s = .next t) :
    BoundaryInv t := by
  obtain ⟨_, _, -, hexec⟩ | ⟨_, -, rfl⟩ := fetchAndExec_cases h
  · exact exec_keeps_inv hs hexec
  · exact hs.takeFault (by simp) _

/-- A step keeps the invariant at each event of the boundary: halt, interrupt and fetch (40_core_and_addressing.md
R120). -/
theorem stepWith_keeps_inv {ctrl : Byte} {s t : State} (hs : BoundaryInv s) (h : stepWith ctrl s = .next t) :
    BoundaryInv t := by
  have hrunning (hb : ∀ why, s.boundary ≠ .noStep why) : BoundaryInv s.enterRunning :=
    hs.setRun (State.run_of_boundary hb) (by decide)
  obtain ⟨hb, rfl⟩ | ⟨hb, rfl⟩ | ⟨hb, hfetch⟩ := stepWith_cases h
  · exact hs.setRun (State.run_of_boundary (by simp [hb])) (by decide)
  · exact (hrunning (by simp [hb])).interruptEntry
  · exact fetchAndExec_keeps_inv ((hrunning (by simp [hb])).hostBoundary ctrl) hfetch

/-- Settles O7: a step is a step with some controller byte, and that keeps the invariant through each event of the
boundary and each shape of instruction (`exec_shape`). -/
theorem stepKeepsTheInvariant : Obligations.StepKeepsTheInvariant := by
  unfold Obligations.StepKeepsTheInvariant
  intro ctrl s t hs h
  obtain hstep | hstep := h
  · exact stepWith_keeps_inv hs hstep
  · exact stepWith_keeps_inv hs hstep

end Sys2Proof.Machine
end

section
/-! PROOF. The cartridge image loader (20_memory.md R70 to R79, R84). The one idea: the loader is a chain of checks, and
each error is the first check that fails; an image that loads has passed them all. -/

namespace Sys2Proof

/-! The checks, by name. -/

/-- A whole header, with the magic (R70, R71). -/
def HasMagic (image : List Byte) : Prop := headerLength ≤ image.length ∧ image.take 4 = imageMagic

/-- Every byte that the header counts (R77, R79). -/
def HasAllBytes (image : List Byte) : Prop :=
  headerLength + imageTrainerLength image + imagePrgLength image + imageChrLength image ≤ image.length

/-- Mapper 0 and an admitted PRG length (R78). -/
def IsAdmitted (image : List Byte) : Prop :=
  imageMapper image = 0 ∧ ∃ size, admittedPrgSize (imagePrgLength image) = some size

/-! What the loader answers (R84). -/

section
variable {image : List Byte}

theorem loadImage_of_not_hasMagic (h : ¬ HasMagic image) : loadImage image = .error .invalidImage := by
  by_cases hlen : image.length < headerLength
  · rw [loadImage, if_pos hlen]
  · rw [loadImage, if_neg hlen, if_pos fun hmagic => h ⟨Nat.le_of_not_lt hlen, hmagic⟩]

theorem loadImage_of_version_ne (hm : HasMagic image) (hv : imageVersion image ≠ 0) :
    loadImage image = .error .unsupportedFormat := by
  obtain ⟨hlen, hmagic⟩ := hm
  rw [loadImage, if_neg hlen.not_gt, if_neg (not_not.mpr hmagic), if_pos hv]

/-- Past the magic and the version, the loader checks the bytes and the admission. -/
theorem loadImage_of_version_eq (hm : HasMagic image) (hv : imageVersion image = 0) :
    loadImage image =
      if image.length < headerLength + imageTrainerLength image + imagePrgLength image + imageChrLength image then
        .error .invalidImage
      else if imageMapper image ≠ 0 then .error .unsupportedConfiguration
      else ((admittedPrgSize (imagePrgLength image)).map (imageCartridge image)).elim
        (.error .unsupportedConfiguration) .ok := by
  obtain ⟨hlen, hmagic⟩ := hm
  rw [loadImage, if_neg hlen.not_gt, if_neg (not_not.mpr hmagic), if_neg (not_not.mpr hv)]
  cases admittedPrgSize (imagePrgLength image) <;> rfl

theorem loadImage_of_not_hasAllBytes (hm : HasMagic image) (hv : imageVersion image = 0) (hb : ¬ HasAllBytes image) :
    loadImage image = .error .invalidImage := by
  rw [loadImage_of_version_eq hm hv, if_pos (Nat.lt_of_not_le hb)]

theorem loadImage_of_not_isAdmitted (hm : HasMagic image) (hv : imageVersion image = 0) (hb : HasAllBytes image)
    (ha : ¬ IsAdmitted image) : loadImage image = .error .unsupportedConfiguration := by
  rw [loadImage_of_version_eq hm hv, if_neg (Nat.not_lt_of_le hb)]
  by_cases hmapper : imageMapper image = 0
  · have hsize : admittedPrgSize (imagePrgLength image) = none :=
      Option.eq_none_iff_forall_ne_some.mpr fun size hsize => ha ⟨hmapper, size, hsize⟩
    rw [if_neg (not_not.mpr hmapper), hsize]
    rfl
  · rw [if_pos hmapper]

/-- An image that passes every check loads. -/
theorem loadImage_of_checks (hm : HasMagic image) (hv : imageVersion image = 0) (hb : HasAllBytes image)
    (hmapper : imageMapper image = 0) {size : PrgSize} (hsize : admittedPrgSize (imagePrgLength image) = some size) :
    loadImage image = .ok (imageCartridge image size) := by
  rw [loadImage_of_version_eq hm hv, if_neg (Nat.not_lt_of_le hb), if_neg (not_not.mpr hmapper), hsize]
  rfl

/-- An image that loads has passed every check: otherwise the first that fails gives its error. -/
theorem checks_of_loadImage {cart : Cartridge} (h : loadImage image = .ok cart) :
    HasMagic image ∧ imageVersion image = 0 ∧ HasAllBytes image ∧ IsAdmitted image := by
  have hm : HasMagic image := by_contra fun hn => by simp [loadImage_of_not_hasMagic hn] at h
  have hv : imageVersion image = 0 := by_contra fun hn => by simp [loadImage_of_version_ne hm hn] at h
  have hb : HasAllBytes image := by_contra fun hn => by simp [loadImage_of_not_hasAllBytes hm hv hn] at h
  exact ⟨hm, hv, hb, by_contra fun hn => by simp [loadImage_of_not_isAdmitted hm hv hb hn] at h⟩

/-- What a loaded cartridge is. -/
theorem eq_imageCartridge_of_loadImage {cart : Cartridge} (h : loadImage image = .ok cart) :
    imageMapper image = 0 ∧ ∃ size, admittedPrgSize (imagePrgLength image) = some size ∧
      cart = imageCartridge image size := by
  obtain ⟨hm, hv, hb, hmapper, size, hsize⟩ := checks_of_loadImage h
  rw [loadImage_of_checks hm hv hb hmapper hsize] at h
  exact ⟨hmapper, size, hsize, (Except.ok.inj h).symm⟩

theorem exists_loadImage_iff :
    (∃ cart, loadImage image = .ok cart) ↔
      HasMagic image ∧ imageVersion image = 0 ∧ HasAllBytes image ∧ IsAdmitted image := by
  constructor
  · rintro ⟨cart, h⟩
    exact checks_of_loadImage h
  · rintro ⟨hm, hv, hb, hmapper, size, hsize⟩
    exact ⟨_, loadImage_of_checks hm hv hb hmapper hsize⟩

end

/-! The checks in terms of the header's bytes. -/

/-- The first four bytes, one by one. -/
theorem take_four_eq {image : List Byte} (h : 4 ≤ image.length) :
    image.take 4 = [imageByte image 0, imageByte image 1, imageByte image 2, imageByte image 3] :=
  match image, h with
  | _ :: _ :: _ :: _ :: _, _ => rfl

theorem hasMagic_iff (image : List Byte) :
    HasMagic image ↔ 16 ≤ image.length ∧ imageByte image 0 = 0x4E ∧ imageByte image 1 = 0x45 ∧
      imageByte image 2 = 0x53 ∧ imageByte image 3 = 0x1A := by
  refine and_congr_right fun hlen => ?_
  rw [take_four_eq (le_trans (by decide) hlen), imageMagic]
  simp

/-- Bits 3:2 of a byte are clear exactly when its part under 0x0C is. -/
theorem extractLsb'_two_two_eq_zero_iff : ∀ b : Byte, b.extractLsb' 2 2 = 0 ↔ b &&& 0x0C = 0 := by decide

theorem imageVersion_eq_zero_iff (image : List Byte) : imageVersion image = 0 ↔ imageByte image 7 &&& 0x0C = 0 :=
  extractLsb'_two_two_eq_zero_iff _

/-- The mapper's value from the two high nibbles (R75). -/
theorem imageMapper_toNat (image : List Byte) :
    (imageMapper image).toNat = (imageByte image 7).toNat / 16 * 16 + (imageByte image 6).toNat / 16 := by
  have h7 := (imageByte image 7).isLt
  have h6 := (imageByte image 6).isLt
  rw [imageMapper, BitVec.toNat_append, BitVec.extractLsb'_toNat, BitVec.extractLsb'_toNat,
    ← Nat.shiftLeft_add_eq_or_of_lt (Nat.mod_lt _ (by decide))]
  simp only [Nat.shiftLeft_eq, Nat.shiftRight_eq_div_pow]
  omega

theorem imageMapper_eq_zero_iff (image : List Byte) :
    imageMapper image = 0 ↔ (imageByte image 7).toNat / 16 = 0 ∧ (imageByte image 6).toNat / 16 = 0 := by
  have hzero : imageMapper image = 0 ↔ (imageMapper image).toNat = 0 := BitVec.toNat_eq
  rw [hzero, imageMapper_toNat]
  omega

theorem admittedPrgSize_eq_some_iff {length : Nat} {size : PrgSize} :
    admittedPrgSize length = some size ↔ size.bytes = length := by
  constructor
  · intro h
    unfold admittedPrgSize at h
    split_ifs at h with h16 h32
    · cases h; exact h16.symm
    · cases h; exact h32.symm
  · rintro rfl
    cases size <;> rfl

theorem isAdmitted_iff (image : List Byte) :
    IsAdmitted image ↔ (imageByte image 7).toNat / 16 = 0 ∧ (imageByte image 6).toNat / 16 = 0 ∧
      (imagePrgLength image = 16384 ∨ imagePrgLength image = 32768) := by
  have hsize : (∃ size, admittedPrgSize (imagePrgLength image) = some size) ↔
      imagePrgLength image = 16384 ∨ imagePrgLength image = 32768 := by
    simp only [admittedPrgSize_eq_some_iff]
    constructor
    · rintro ⟨size, h⟩
      cases size with
      | kib16 => exact .inl h.symm
      | kib32 => exact .inr h.symm
    · rintro (h | h)
      · exact ⟨.kib16, h.symm⟩
      · exact ⟨.kib32, h.symm⟩
  rw [IsAdmitted, imageMapper_eq_zero_iff, hsize, and_assoc]

/-- Settles O4: the loader's chain of checks, each in terms of the header's bytes. -/
theorem loaderAdmitsExactlyTheWellFormedImages : Obligations.LoaderAdmitsExactlyTheWellFormedImages := by
  unfold Obligations.LoaderAdmitsExactlyTheWellFormedImages
  intro image header trainer prg whole magic version0 admitted
  have hmagic : HasMagic image ↔ magic := hasMagic_iff image
  have hversion : imageVersion image = 0 ↔ version0 := imageVersion_eq_zero_iff image
  have hwhole : HasAllBytes image ↔ whole := Iff.rfl
  have hadmitted : IsAdmitted image ↔ admitted := isAdmitted_iff image
  rw [← hmagic, ← hversion, ← hwhole, ← hadmitted]
  exact ⟨exists_loadImage_iff, loadImage_of_not_hasMagic, loadImage_of_version_ne, loadImage_of_not_hasAllBytes,
    loadImage_of_not_isAdmitted⟩

/-! The slices (R77). -/

/-- Byte `k` of a slice of a list, laid out from key 0, is byte `start + k` of the list. -/
theorem Memory.read_slice (image : List Byte) (start : Nat) {length k : Nat} (hk : k < length) :
    (Memory.ofBytesAt 0 ((image.drop start).take length)).read k = image.getD (start + k) 0 := by
  have hread := Memory.read_ofBytesAt 0 k ((image.drop start).take length)
  rw [Nat.zero_add] at hread
  rw [hread, List.getD_eq_getElem?_getD, List.getElem?_take_of_lt hk, List.getElem?_drop,
    ← List.getD_eq_getElem?_getD]
  rfl

/-- Settles O5: a loaded cartridge is `imageCartridge` of an admitted size, whose PRG and CHR are slices. -/
theorem loadedCartridgeHoldsTheSlices : Obligations.LoadedCartridgeHoldsTheSlices := by
  unfold Obligations.LoadedCartridgeHoldsTheSlices
  intro image cart h header trainer prg
  obtain ⟨-, size, hsize, rfl⟩ := eq_imageCartridge_of_loadImage h
  exact ⟨admittedPrgSize_eq_some_iff.mp hsize, rfl, fun _ hk => Memory.read_slice image _ hk,
    fun _ hk => Memory.read_slice image _ hk, rfl, imageMapper_toNat image, rfl⟩

end Sys2Proof
end

section
/-! PROOF. The bus: the mirrored ROM window, one-byte writes and little-endian words (20_memory.md R54, R56, R57, R60,
R61, R62). The one idea: a word access is two one-byte accesses, so each word fact follows from the byte facts at the
address and at the address after it. -/

namespace Sys2Proof

/-! The ROM window (20_memory.md R54). -/

/-- The address of offset `j` of the ROM window. -/
theorem romWindow_toNat {j : Nat} (hj : j < 0x8000) : (BitVec.ofNat 16 (0x8000 + j)).toNat = 0x8000 + j := by
  rw [BitVec.toNat_ofNat]
  omega

/-- With one bank, window offset `j` shows the PRG byte `j` modulo the bank's length. -/
theorem romOffset_kib16 {j : Nat} (hj : j < 0x8000) : romOffset .kib16 (BitVec.ofNat 16 (0x8000 + j)) = j % 0x4000 := by
  unfold romOffset
  rw [romWindow_toNat hj, Nat.add_sub_cancel_left]

/-- With two banks, window offset `j` shows the PRG byte `j`. -/
theorem romOffset_kib32 {j : Nat} (hj : j < 0x8000) : romOffset .kib32 (BitVec.ofNat 16 (0x8000 + j)) = j := by
  unfold romOffset
  rw [romWindow_toNat hj, Nat.add_sub_cancel_left]

end Sys2Proof

namespace Sys2Proof.Machine

/-- A read in the ROM window is a read of PRG-ROM at the window's offset. -/
theorem State.read_romWindow (s : State) {j : Nat} (hj : j < 0x8000) :
    s.read (BitVec.ofNat 16 (0x8000 + j)) =
      s.cfg.cart.prg.read (romOffset s.cfg.cart.prgSize (BitVec.ofNat 16 (0x8000 + j))) :=
  State.read_rom s (by rw [romWindow_toNat hj]; omega)

/-- Settles O24: 0xC000 + k is window offset 0x4000 + k, which one bank shows as PRG byte k. -/
theorem romWindowShowsPrgMirrored : Obligations.RomWindowShowsPrgMirrored := by
  unfold Obligations.RomWindowShowsPrgMirrored
  intro s
  refine ⟨fun hsize k hk => ⟨?_, ?_⟩, fun hsize k hk => ?_⟩
  · rw [State.read_romWindow s (by omega), hsize, romOffset_kib16 (by omega), Nat.mod_eq_of_lt hk]
  · have hlow : 0xC000 + k = 0x8000 + (0x4000 + k) := by omega
    rw [hlow, State.read_romWindow s (by omega), hsize, romOffset_kib16 (by omega), Nat.add_mod_left,
      Nat.mod_eq_of_lt hk]
  · rw [State.read_romWindow s hk, hsize, romOffset_kib32 hk]

/-! Writes (20_memory.md R56, R57). -/

/-- What a RAM write does: it succeeds, the byte reads as written, and nothing else changes (R56). -/
theorem State.write_of_inRam (s : State) {addr : Word} (h : InRam addr) (v : Byte) :
    ∃ t, s.write addr v = some t ∧ t = { s with ram := t.ram } ∧ t.read addr = v ∧ MemoryKeptBut s t addr :=
  ⟨_, State.write_ram s h v, rfl, State.read_setRam_same s h v, fun _ hb => State.read_setRam_other s hb v⟩

/-- Settles O25: a write is decided by where its address lies, and in RAM it is one write of the byte storage. -/
theorem busWriteChangesOneRamByteOrIsRefused : Obligations.BusWriteChangesOneRamByteOrIsRefused := by
  unfold Obligations.BusWriteChangesOneRamByteOrIsRefused
  intro s addr v
  exact ⟨fun h => State.write_of_inRam s h v, fun h => State.write_rom s h v⟩

/-! Words (20_memory.md R60, R61, R62). -/

/-- The address after another, with the wrap modulo 65536 (R60). -/
theorem word_succ_eq_ofNat (addr : Word) : addr + 1 = BitVec.ofNat 16 ((addr.toNat + 1) % 65536) :=
  BitVec.eq_of_toNat_eq (by simp)

theorem zext16_eq_ofNat (b : Byte) : zext16 b = BitVec.ofNat 16 b.toNat :=
  BitVec.eq_of_toNat_eq (by simp [zext16])

/-- The zero-page address after another, with the wrap modulo 256 (R62). -/
theorem zext16_succ_eq_ofNat (b : Byte) : zext16 (b + 1) = BitVec.ofNat 16 ((b.toNat + 1) % 256) := by
  rw [zext16_eq_ofNat, BitVec.toNat_add]
  rfl

theorem word_ne_succ (addr : Word) : addr ≠ addr + 1 := by
  simp

/-- Two one-byte changes one after the other leave every byte outside the two addresses. -/
theorem MemoryKeptBut.trans {s t u : State} {a b : Word} (hst : MemoryKeptBut s t a) (htu : MemoryKeptBut t u b) :
    MemoryKeptOutside s u [a, b] := by
  intro addr hout
  obtain ⟨ha, hb⟩ : addr ≠ a ∧ addr ≠ b := by simpa using hout
  exact (htu addr hb).trans (hst addr ha)

/-- A word write is the write of the low byte, then of the high byte at the next address (R61). -/
theorem State.write16_of_write {s t : State} {addr : Word} {v : Word} (h : s.write addr (lo8 v) = some t) :
    s.write16 addr v = t.write (addr + 1) (hi8 v) := by
  rw [State.write16, h, Option.bind_some]

/-- What a word write does where both its bytes are in RAM (R60, R61). -/
theorem State.write16_of_inRam (s : State) {addr : Word} (hlo : InRam addr) (hhi : InRam (addr + 1)) (v : Word) :
    ∃ t, s.write16 addr v = some t ∧ t = { s with ram := t.ram } ∧ t.read16 addr = v ∧
      t.read addr = lo8 v ∧ t.read (addr + 1) = hi8 v ∧ MemoryKeptOutside s t [addr, addr + 1] := by
  obtain ⟨t, hwrite, hframe, hread, hkept⟩ := State.write_of_inRam s hlo (lo8 v)
  obtain ⟨u, hwrite', hframe', hread', hkept'⟩ := State.write_of_inRam t hhi (hi8 v)
  have hlow : u.read addr = lo8 v := (hkept' addr (word_ne_succ addr)).trans hread
  have hword : u.read16 addr = v := by rw [State.read16, hread', hlow, wordOf_hi8_lo8]
  have hregs : u = { s with ram := u.ram } := by rw [hframe', hframe]
  exact ⟨u, (State.write16_of_write hwrite).trans hwrite', hregs, hword, hlow, hread', hkept.trans hkept'⟩

/-- A word write fails where its high byte is in ROM, whether or not its low byte is (R61). -/
theorem State.write16_of_not_inRam (s : State) {addr : Word} (hhi : ¬ InRam (addr + 1)) (v : Word) :
    s.write16 addr v = none := by
  cases h : s.write addr (lo8 v) with
  | none => rw [State.write16, h, Option.bind_none]
  | some t => rw [State.write16_of_write h, State.write_rom t hhi]

/-- A word write fails where its low byte is in ROM (R61). -/
theorem State.write16_of_not_inRam_low (s : State) {addr : Word} (hlo : ¬ InRam addr) (v : Word) :
    s.write16 addr v = none := by
  rw [State.write16, State.write_rom s hlo, Option.bind_none]

/-- Of the RAM addresses, all up to 0x7FFE have the next address in RAM too. -/
theorem inRam_succ_iff {addr : Word} (h : InRam addr) : InRam (addr + 1) ↔ addr.toNat ≤ 0x7FFE := by
  have hlt : addr.toNat < 0x8000 := h
  have hnat : (addr + 1).toNat = addr.toNat + 1 := by
    rw [BitVec.toNat_add]
    exact Nat.mod_eq_of_lt (by simp; omega)
  rw [InRam, hnat]
  omega

/-- Settles O26: reads by the value of `wordOf`, writes by their two one-byte writes; at 0x7FFF the high byte is in
ROM, above it the low byte. -/
theorem wordAccessesAreLittleEndian : Obligations.WordAccessesAreLittleEndian := by
  unfold Obligations.WordAccessesAreLittleEndian
  intro s addr p v
  refine ⟨?_, ?_, fun h => ?_, fun h => ?_⟩
  · rw [State.read16, wordOf_toNat, word_succ_eq_ofNat]
  · rw [State.read16ZP, wordOf_toNat, zext16_succ_eq_ofNat, zext16_eq_ofNat]
  · have hlo : InRam addr := Nat.lt_succ_of_le (h.trans (by decide))
    exact State.write16_of_inRam s hlo ((inRam_succ_iff hlo).mpr h) v
  · by_cases hlo : InRam addr
    · exact State.write16_of_not_inRam s (mt (inRam_succ_iff hlo).mp (Nat.not_le_of_lt h)) v
    · exact State.write16_of_not_inRam_low s hlo v

end Sys2Proof.Machine
end

section
/-! PROOF. The stack over many bytes (20_memory.md R63 to R66). The one idea: what pops answer depends on SP and the
slots above it alone, and a push writes only the slot at SP, which at most 255 later pops do not reach. -/

namespace Sys2Proof.Machine

theorem State.pushAll_snoc (s : State) (vs : List Byte) (v : Byte) :
    s.pushAll (vs ++ [v]) = (s.pushAll vs).push v := by
  simp [State.pushAll]

/-- Pushes move SP down by their number, modulo 256 (R64). -/
theorem State.pushAll_sp (s : State) (vs : List Byte) : (s.pushAll vs).sp = s.sp - BitVec.ofNat 8 vs.length := by
  induction vs using List.reverseRecOn with
  | nil => exact (BitVec.sub_zero s.sp).symm
  | append_singleton vs v ih =>
    rw [State.pushAll_snoc, State.push_sp, ih, BitVec.sub_sub, List.length_append, BitVec.ofNat_add]
    rfl

/-- One pop and `n` more move SP up by `n + 1`. -/
theorem State.pop_sp_add (s : State) (n : Nat) : s.pop.2.sp + BitVec.ofNat 8 n = s.sp + BitVec.ofNat 8 (n + 1) := by
  rw [State.pop_eq, Nat.add_comm n 1, BitVec.ofNat_add, ← BitVec.add_assoc]
  rfl

/-- Pops move SP up by their number, modulo 256 (R65). -/
theorem State.popMany_sp (s : State) (n : Nat) : (s.popMany n).2.sp = s.sp + BitVec.ofNat 8 n := by
  induction n generalizing s with
  | zero => exact (BitVec.add_zero s.sp).symm
  | succ n ih => exact (ih s.pop.2).trans (State.pop_sp_add s n)

/-- Pops answer the same bytes from two states with one SP and the same bytes in the slots they reach. -/
theorem State.popMany_congr {s t : State} {n : Nat} (hsp : t.sp = s.sp)
    (hslots : ∀ i < n, t.read (stackAddr (s.sp + BitVec.ofNat 8 (i + 1))) =
      s.read (stackAddr (s.sp + BitVec.ofNat 8 (i + 1)))) :
    (t.popMany n).1 = (s.popMany n).1 := by
  induction n generalizing s t with
  | zero => rfl
  | succ n ih =>
    have hfirst : t.pop.1 = s.pop.1 := by
      rw [State.pop_eq, State.pop_eq, hsp]
      exact hslots 0 (Nat.succ_pos n)
    have hrest : (t.pop.2.popMany n).1 = (s.pop.2.popMany n).1 := by
      refine ih (congrArg (· + 1) hsp) fun i hi => ?_
      rw [State.pop_sp_add]
      exact hslots (i + 1) (Nat.succ_lt_succ hi)
    exact congrArg₂ List.cons hfirst hrest

/-- The 255 slots above SP are not the slot at SP. -/
theorem stackAddr_add_ne (sp : Byte) {i : Nat} (hi : i + 1 < 256) :
    stackAddr (sp + BitVec.ofNat 8 (i + 1)) ≠ stackAddr sp := by
  have hne : BitVec.ofNat 8 (i + 1) ≠ 0 := by
    intro h
    have hnat : (i + 1) % 256 = 0 := by simpa using congrArg BitVec.toNat h
    omega
  have h := stackAddr_sub_ne (sp + BitVec.ofNat 8 (i + 1)) _ hne
  rwa [BitVec.add_sub_cancel] at h

/-- After a push, one pop answers the byte, and at most 255 more answer what they would have before the push. -/
theorem State.popMany_succ_push (s : State) (v : Byte) {n : Nat} (hn : n < 256) :
    ((s.push v).popMany (n + 1)).1 = v :: (s.popMany n).1 := by
  have hpop : ((s.push v).popMany (n + 1)).1 = v :: (State.popMany { s with ram := (s.push v).ram } n).1 := by
    rw [State.popMany, State.pop_push]
  rw [hpop]
  refine congrArg (v :: ·) (State.popMany_congr rfl fun i hi => ?_)
  exact State.read_push_other s (stackAddr_add_ne s.sp (by omega)) v

/-- At most 256 bytes come back in reverse order (R66). -/
theorem State.popMany_pushAll (s : State) {vs : List Byte} (h : vs.length ≤ 256) :
    ((s.pushAll vs).popMany vs.length).1 = vs.reverse := by
  induction vs using List.reverseRecOn with
  | nil => rfl
  | append_singleton vs v ih =>
    rw [List.length_append, List.length_singleton] at h ⊢
    rw [State.pushAll_snoc, State.popMany_succ_push _ v (by omega), ih (by omega), List.reverse_concat']

/-- Settles O27: SP goes down and up by the same number; the bytes by induction on the last push. -/
theorem pushesThenPopsReturnInReverse : Obligations.PushesThenPopsReturnInReverse := by
  unfold Obligations.PushesThenPopsReturnInReverse
  intro s vs
  refine ⟨?_, State.popMany_pushAll s, fun hsp v => ⟨?_, ?_⟩, fun hsp => ⟨?_, ?_⟩⟩
  · rw [State.popMany_sp, State.pushAll_sp, BitVec.sub_add_cancel]
  · have hslot : stackAddr s.sp = 0x0100 := by rw [hsp]; rfl
    rw [← hslot, State.read_push_same]
  · rw [State.push_sp, hsp]; rfl
  · rw [State.pop_eq, hsp]; rfl
  · rw [State.pop_eq, hsp]; rfl

end Sys2Proof.Machine
end

section
/-! PROOF. Decoder and encoder agree (30_encoding.md R91 to R104). The one idea: an entry of the opcode map, with its
operand bytes, is an instruction and its encoding. `decode_eq_ok_iff` says that decode reads exactly these;
`encode_instr` and `Instr.InMap.of_wellFormed`, that they are exactly the well-formed instructions with their
encodings. -/

namespace Sys2Proof

open Sys2Proof.Machine

/-! An entry with its operand: the byte `b` in format F2, the word `w` in format F3. -/

/-- The instruction an entry gives. -/
def OpcodeEntry.instr (e : OpcodeEntry) (b : Byte) (w : Word) : Instr :=
  match e with
  | .f1 i => i
  | .f2 make => make b
  | .f3 make => make w

/-- The operand bytes that follow the opcode (R91). -/
def OpcodeEntry.operands (e : OpcodeEntry) (b : Byte) (w : Word) : List Byte :=
  match e with
  | .f1 _ => []
  | .f2 _ => [b]
  | .f3 _ => [lo8 w, hi8 w]

/-- The length of an entry's encoding, which its format fixes (R91, R104). -/
def OpcodeEntry.length : OpcodeEntry → Nat
  | .f1 _ => 1
  | .f2 _ => 2
  | .f3 _ => 3

theorem OpcodeEntry.operands_length (e : OpcodeEntry) (b : Byte) (w : Word) :
    (e.operands b w).length + 1 = e.length := by
  cases e <;> rfl

/-- The map has sixteen rows of sixteen entries, so a lookup never misses (R96). -/
theorem exists_opcodeEntry (op : Byte) : ∃ e, opcodeEntry op = some e := by
  have hlt := op.isLt
  have hrows : ∀ row ∈ opcodeMap, row.length = 16 := by decide
  have hhi : op.toNat / 16 < opcodeMap.length := by
    have : opcodeMap.length = 16 := rfl
    omega
  have hlo : op.toNat % 16 < opcodeMap[op.toNat / 16].length := by
    rw [hrows _ (List.getElem_mem hhi)]
    omega
  exact ⟨_, by rw [opcodeEntry, List.getElem?_eq_getElem hhi, Option.bind_some, List.getElem?_eq_getElem hlo]⟩

/-! What decode reads. -/

theorem decode_of_entry {op : Byte} {e : OpcodeEntry} (he : opcodeEntry op = some e) (b : Byte) (w : Word)
    (rest : List Byte) : decode (op :: e.operands b w ++ rest) = .ok (e.instr b w, rest) := by
  cases e with
  | f1 i => simp [decode, he, OpcodeEntry.operands, OpcodeEntry.instr]
  | f2 make => simp [decode, he, OpcodeEntry.operands, OpcodeEntry.instr]
  | f3 make => simp [decode, he, OpcodeEntry.operands, OpcodeEntry.instr, wordOf_hi8_lo8]

/-- Decode answers an instruction and a rest exactly where the bytes are an opcode, the operand bytes of its entry and
that rest, and the instruction is the entry's (R91, R94). -/
theorem decode_eq_ok_iff {bytes rest : List Byte} {i : Instr} :
    decode bytes = .ok (i, rest) ↔
      ∃ op e b w, opcodeEntry op = some e ∧ e.instr b w = i ∧ op :: e.operands b w ++ rest = bytes := by
  constructor
  · intro h
    unfold decode at h
    split at h
    · cases h
    next op after =>
      split at h
      next => cases h
      next i he => cases h; exact ⟨op, _, 0, 0, he, rfl, rfl⟩
      next make he =>
        split at h
        next b1 _ => cases h; exact ⟨op, _, b1, 0, he, rfl, rfl⟩
        next => cases h
      next make he =>
        split at h
        next lo hi _ =>
          cases h
          exact ⟨op, _, 0, wordOf hi lo, he, rfl, by simp [OpcodeEntry.operands, lo8_wordOf, hi8_wordOf]⟩
        next => cases h
        next => cases h
  · rintro ⟨op, e, b, w, he, rfl, rfl⟩
    exact decode_of_entry he b w rest

/-- No format needs more than two operand bytes, so decode reads an instruction from an opcode and two bytes. -/
theorem exists_decode_eq_ok (op b1 b2 : Byte) (rest : List Byte) :
    ∃ i after, decode (op :: b1 :: b2 :: rest) = .ok (i, after) := by
  obtain ⟨e, he⟩ := exists_opcodeEntry op
  cases e with
  | f1 i => exact ⟨i, b1 :: b2 :: rest, by simp [decode, he]⟩
  | f2 make => exact ⟨make b1, b2 :: rest, by simp [decode, he]⟩
  | f3 make => exact ⟨make (wordOf b2 b1), rest, by simp [decode, he]⟩

/-! What every entry of the map says, row by row. -/

/-- What a function of an opcode and its entry answers along a row of the map. -/
def alongRow {α : Type} (f : Byte → OpcodeEntry → α) (row : Nat) : List (Option α) :=
  (List.range 16).map fun k => (opcodeEntry (BitVec.ofNat 8 (16 * row + k))).map (f (BitVec.ofNat 8 (16 * row + k)))

/-- Two functions of an opcode and its entry agree when they agree along each row of the map. -/
theorem eq_of_alongRow_eq {α : Type} {f g : Byte → OpcodeEntry → α} (h : ∀ row < 16, alongRow f row = alongRow g row)
    {op : Byte} {e : OpcodeEntry} (he : opcodeEntry op = some e) : f op e = g op e := by
  have hlt := op.isLt
  have hplace : BitVec.ofNat 8 (16 * (op.toNat / 16) + op.toNat % 16) = op := by
    rw [Nat.div_add_mod, BitVec.ofNat_toNat, BitVec.setWidth_eq]
  have hop := List.map_inj_left.mp (h (op.toNat / 16) (by omega)) (op.toNat % 16) (List.mem_range.mpr (by omega))
  rw [hplace, he] at hop
  exact Option.some.inj hop

/-- An entry stands at the place of its own opcode: its instruction encodes to that byte and the operand (R98). -/
theorem encode_instr {op : Byte} {e : OpcodeEntry} (he : opcodeEntry op = some e) (b : Byte) (w : Word) :
    encode (e.instr b w) = op :: e.operands b w :=
  eq_of_alongRow_eq (f := fun _ e => encode (e.instr b w)) (g := fun op e => op :: e.operands b w)
    (fun row hrow => by interval_cases row <;> rfl) he

theorem wellFormed_instr {op : Byte} {e : OpcodeEntry} (he : opcodeEntry op = some e) (b : Byte) (w : Word) :
    (e.instr b w).wellFormed = true :=
  eq_of_alongRow_eq (f := fun _ e => (e.instr b w).wellFormed) (g := fun _ _ => true)
    (fun row hrow => by interval_cases row <;> rfl) he

/-- The descriptor of an opcode has the length of the opcode's format, and so has its mode (R92, R104). -/
theorem descriptor_lengths {op : Byte} {e : OpcodeEntry} (he : opcodeEntry op = some e) :
    (descriptor op).map (fun d => (d.length, d.mode.length)) = some (e.length, e.length) :=
  eq_of_alongRow_eq (f := fun op _ => (descriptor op).map (fun d => (d.length, d.mode.length)))
    (g := fun _ e => some (e.length, e.length)) (fun row hrow => by interval_cases row <;> rfl) he

theorem Mode.length_eq (m : Mode) :
    m.length =
      if m = .implied ∨ m = .accumulator then 1
      else if m = .absolute ∨ m = .absoluteX ∨ m = .absoluteY ∨ m = .indirect then 3
      else 2 := by
  cases m <;> rfl

/-! Every well-formed instruction is in the map. -/

/-- The instruction is in the map under the opcode of its encoding, which has one of the three formats (R91). -/
inductive Instr.InMap : Instr → Prop where
  | f1 {op : Byte} {i : Instr} (hencode : encode i = [op]) (he : opcodeEntry op = some (.f1 i)) : InMap i
  | f2 {op : Byte} {make : Byte → Instr} {b : Byte} (hencode : encode (make b) = [op, b])
      (he : opcodeEntry op = some (.f2 make)) : InMap (make b)
  | f3 {op : Byte} {make : Word → Instr} {w : Word} (hencode : encode (make w) = [op, lo8 w, hi8 w])
      (he : opcodeEntry op = some (.f3 make)) : InMap (make w)

theorem Instr.InMap.exists_entry {i : Instr} (h : i.InMap) :
    ∃ op e b w, opcodeEntry op = some e ∧ e.instr b w = i ∧ encode i = op :: e.operands b w := by
  cases h with
  | f1 hencode he => exact ⟨_, _, 0, 0, he, rfl, hencode⟩
  | @f2 op make b hencode he => exact ⟨_, _, b, 0, he, rfl, hencode⟩
  | @f3 op make w hencode he => exact ⟨_, _, 0, w, he, rfl, hencode⟩

/-- The entries of the opcodes that share a constructor differ in its opcode field alone. -/
theorem opcodeEntry_of_mem (ops : List Byte) (entry : Byte → OpcodeEntry)
    (h : ops.map opcodeEntry = ops.map (fun op => some (entry op))) {op : Byte} (hop : decide (op ∈ ops) = true) :
    opcodeEntry op = some (entry op) :=
  List.map_inj_left.mp h op (of_decide_eq_true hop)

/-- Every well-formed instruction is in the map, with its operand bytes in its format (R97, R98). -/
theorem Instr.InMap.of_wellFormed {i : Instr} (h : i.wellFormed = true) : i.InMap := by
  cases i with
  | jam op => exact .f1 rfl (opcodeEntry_of_mem jamOpcodes (fun op => .f1 (.jam op)) rfl h)
  | nopImplied op => exact .f1 rfl (opcodeEntry_of_mem nopImpliedOpcodes (fun op => .f1 (.nopImplied op)) rfl h)
  | ancImm op => exact .f2 rfl (opcodeEntry_of_mem ancOpcodes (fun op => .f2 (.ancImm op)) rfl h)
  | nopImm op => exact .f2 rfl (opcodeEntry_of_mem nopImmOpcodes (fun op => .f2 (.nopImm op)) rfl h)
  | nopZp op => exact .f2 rfl (opcodeEntry_of_mem nopZpOpcodes (fun op => .f2 (.nopZp op)) rfl h)
  | nopZpX op => exact .f2 rfl (opcodeEntry_of_mem nopZpXOpcodes (fun op => .f2 (.nopZpX op)) rfl h)
  | nopAbsX op => exact .f3 rfl (opcodeEntry_of_mem nopAbsXOpcodes (fun op => .f3 (.nopAbsX op)) rfl h)
  | brk | php | aslAcc | clc | plp | rolAcc | sec | rti | pha | lsrAcc | cli | rts | pla | rorAcc | sei | dey | txa |
    tya | txs | tay | tax | clv | tsx | iny | dex | cld | inx | nop | sed => exact .f1 rfl rfl
  | oraIndX | sloIndX | oraZp | aslZp | sloZp | oraImm | bpl | oraIndY | sloIndY | oraZpX | aslZpX | sloZpX |
    andIndX | rlaIndX | bitZp | andZp | rolZp | rlaZp | andImm | bmi | andIndY | rlaIndY | andZpX | rolZpX | rlaZpX |
    eorIndX | sreIndX | eorZp | lsrZp | sreZp | eorImm | alrImm | bvc | eorIndY | sreIndY | eorZpX | lsrZpX | sreZpX |
    adcIndX | rraIndX | adcZp | rorZp | rraZp | adcImm | arrImm | bvs | adcIndY | rraIndY | adcZpX | rorZpX | rraZpX |
    staIndX | saxIndX | styZp | staZp | stxZp | saxZp | aneImm | bcc | staIndY | shaIndY | styZpX | staZpX | stxZpY |
    saxZpY | ldyImm | ldaIndX | ldxImm | laxIndX | ldyZp | ldaZp | ldxZp | laxZp | ldaImm | lxaImm | bcs | ldaIndY |
    laxIndY | ldyZpX | ldaZpX | ldxZpY | laxZpY | cpyImm | cmpIndX | dcpIndX | cpyZp | cmpZp | decZp | dcpZp |
    cmpImm | sbxImm | bne | cmpIndY | dcpIndY | cmpZpX | decZpX | dcpZpX | cpxImm | sbcIndX | isbIndX | cpxZp |
    sbcZp | incZp | isbZp | sbcImm | usbcImm | beq | sbcIndY | isbIndY | sbcZpX | incZpX | isbZpX => exact .f2 rfl rfl
  | nopAbs | oraAbs | aslAbs | sloAbs | oraAbsY | sloAbsY | oraAbsX | aslAbsX | sloAbsX | jsrAbs | bitAbs | andAbs |
    rolAbs | rlaAbs | andAbsY | rlaAbsY | andAbsX | rolAbsX | rlaAbsX | jmpAbs | eorAbs | lsrAbs | sreAbs | eorAbsY |
    sreAbsY | eorAbsX | lsrAbsX | sreAbsX | jmpInd | adcAbs | rorAbs | rraAbs | adcAbsY | rraAbsY | adcAbsX |
    rorAbsX | rraAbsX | styAbs | staAbs | stxAbs | saxAbs | staAbsY | tasAbsY | shyAbsX | staAbsX | shxAbsY |
    shaAbsY | ldyAbs | ldaAbs | ldxAbs | laxAbs | ldaAbsY | lasAbsY | ldyAbsX | ldaAbsX | ldxAbsY | laxAbsY | cpyAbs |
    cmpAbs | decAbs | dcpAbs | cmpAbsY | dcpAbsY | cmpAbsX | decAbsX | dcpAbsX | cpxAbs | sbcAbs | incAbs | isbAbs |
    sbcAbsY | isbAbsY | sbcAbsX | incAbsX | isbAbsX => exact .f3 rfl rfl

/-! The obligations. -/

/-- Settles O18: the instruction is an entry with an operand, and decode reads that entry's encoding. -/
theorem decodeOfEncodeIsTheInstruction : Obligations.DecodeOfEncodeIsTheInstruction := by
  unfold Obligations.DecodeOfEncodeIsTheInstruction
  intro i rest h
  obtain ⟨op, e, b, w, he, rfl, hencode⟩ := (Instr.InMap.of_wellFormed h).exists_entry
  rw [hencode]
  exact decode_of_entry he b w rest

/-- Settles O19: decode read an entry with an operand, which is well-formed and encodes to the bytes read. -/
theorem encodeOfDecodeIsTheBytes : Obligations.EncodeOfDecodeIsTheBytes := by
  unfold Obligations.EncodeOfDecodeIsTheBytes
  intro bytes i rest h
  obtain ⟨op, e, b, w, he, rfl, rfl⟩ := decode_eq_ok_iff.mp h
  exact ⟨wellFormed_instr he b w, by rw [encode_instr he]⟩

/-- Settles O22: encoding, descriptor and mode all have the length of the entry's format. -/
theorem encodingLengthIsTheModes : Obligations.EncodingLengthIsTheModes := by
  unfold Obligations.EncodingLengthIsTheModes
  refine ⟨fun i h => ?_, rfl, fun op => rfl⟩
  obtain ⟨op, e, b, w, he, rfl, hencode⟩ := (Instr.InMap.of_wellFormed h).exists_entry
  obtain ⟨d, hd, hlengths⟩ := Option.map_eq_some_iff.mp (descriptor_lengths he)
  obtain ⟨hlength, hmode⟩ := Prod.mk.inj hlengths
  refine ⟨d, ?_, ?_, ?_⟩
  · rw [descriptorOf, opcodeOf, hencode, List.headD_cons, hd]
  · rw [hencode, List.length_cons, e.operands_length, hlength]
  · rw [hlength, ← hmode, Mode.length_eq]

/-- Settles O23: each word by its entry of the map. -/
theorem sampleWordsDecode : Obligations.SampleWordsDecode := by
  unfold Obligations.SampleWordsDecode
  exact ⟨rfl, rfl, rfl, rfl, rfl, rfl, rfl, rfl, rfl, rfl, rfl, rfl⟩

end Sys2Proof

namespace Sys2Proof.Machine

theorem fetchAndExec_of_decode {s : State} {i : Instr} {rest : List Byte} (h : decode s.fetchBytes = .ok (i, rest)) :
    fetchAndExec s = exec i s := by
  rw [fetchAndExec, h]

/-- Settles O20: the map has every opcode, and a fetch reads three bytes. -/
theorem decodeNeverMisses : Obligations.DecodeNeverMisses := by
  unfold Obligations.DecodeNeverMisses
  refine ⟨exists_decode_eq_ok, fun s => ?_⟩
  obtain ⟨i, after, h⟩ := exists_decode_eq_ok (s.read s.pc) (s.read (s.pc + 1)) (s.read (s.pc + 2)) []
  exact ⟨i, after, h, fetchAndExec_of_decode h⟩

/-- The bytes of a fetch are those at PC + k, with PC + k modulo 65536 (40_core_and_addressing.md R131). -/
theorem State.fetchBytes_getElem? (s : State) {k : Nat} (hk : k < 3) :
    s.fetchBytes[k]? = some (s.read (s.pc + BitVec.ofNat 16 k)) := by
  interval_cases k
  · simp [State.fetchBytes]
  · rfl
  · rfl

/-- Settles O21: the encoding is a front part of the bytes fetched (O19). -/
theorem fetchedOperandsAreTheBytesAfterTheOpcode : Obligations.FetchedOperandsAreTheBytesAfterTheOpcode := by
  unfold Obligations.FetchedOperandsAreTheBytesAfterTheOpcode
  intro s i rest h k hk
  obtain ⟨-, hbytes⟩ := encodeOfDecodeIsTheBytes _ i rest h
  have hlength : (encode i).length + rest.length = 3 := by
    rw [← List.length_append, hbytes]
    rfl
  rw [← List.getElem?_append_left hk, hbytes]
  exact s.fetchBytes_getElem? (by omega)

end Sys2Proof.Machine
end

section
/-! PROOF. Addressing modes and the two computed jump targets (40_core_and_addressing.md R131 to R145, R220, R221). The
one idea: each address is a sum of a word and a zero-extended byte, or a word read, so its value is the sum of the
values modulo the width. -/

namespace Sys2Proof.Machine

/-! Effective addresses (R131 to R145). -/

theorem zext16_toNat (b : Byte) : (zext16 b).toNat = b.toNat := by
  have := b.isLt
  rw [zext16_eq_ofNat, BitVec.toNat_ofNat]
  omega

/-- A byte added to a byte within page zero (R133, R134). -/
theorem zext16_add_toNat (b c : Byte) : (zext16 (b + c)).toNat = (b.toNat + c.toNat) % 256 := by
  rw [zext16_toNat, BitVec.toNat_add]

/-- A byte added to a word (R136, R137). -/
theorem word_add_zext16_toNat (w : Word) (b : Byte) : (w + zext16 b).toNat = (w.toNat + b.toNat) % 65536 := by
  rw [BitVec.toNat_add, zext16_toNat]

/-- The value of a zero-page pointer that starts at a slot given modulo 256 (20_memory.md R62). -/
theorem State.read16ZP_toNat (s : State) {p : Byte} {n : Nat} (hp : p.toNat = n % 256) :
    (s.read16ZP p).toNat =
      256 * (s.read (BitVec.ofNat 16 ((n + 1) % 256))).toNat + (s.read (BitVec.ofNat 16 (n % 256))).toNat := by
  obtain ⟨-, hword, -⟩ := wordAccessesAreLittleEndian s 0 p 0
  rw [hword, hp, Nat.mod_add_mod]

/-- Settles O28: each mode by its sum, the pointer modes by the word at the pointer's slot. -/
theorem addressingModesResolve : Obligations.AddressingModesResolve := by
  unfold Obligations.AddressingModesResolve
  intro s b w o
  have hslot : b.toNat = b.toNat % 256 := (Nat.mod_eq_of_lt b.isLt).symm
  refine ⟨zext16_toNat b, zext16_add_toNat b s.x, zext16_add_toNat b s.y, rfl, word_add_zext16_toNat w s.x,
    word_add_zext16_toNat w s.y, ?indirectX, ?indirectY, fun h => Operand.value_eq_read h s, rfl, rfl⟩
  case indirectX => exact s.read16ZP_toNat (BitVec.toNat_add b s.x)
  case indirectY => rw [Operand.ea, word_add_zext16_toNat, s.read16ZP_toNat hslot]

/-! Jumps (R139, R140). -/

/-- The page bug: from the last byte of a page, the high byte comes from the first byte of that page (R139). -/
theorem State.jmpIndirectTarget_of_pageEnd (s : State) {ptr : Word} (h : lo8 ptr = 0xFF) :
    s.jmpIndirectTarget ptr = wordOf (s.read (ptr &&& 0xFF00)) (s.read ptr) := by
  rw [State.jmpIndirectTarget, if_pos h]

/-- Elsewhere in a page the target is the word at the pointer (R140). -/
theorem State.jmpIndirectTarget_of_not_pageEnd (s : State) {ptr : Word} (h : lo8 ptr ≠ 0xFF) :
    s.jmpIndirectTarget ptr = s.read16 ptr := by
  rw [State.jmpIndirectTarget, if_neg h, State.read16]

/-- Settles O29: both forms set PC alone, JMP indirect to its target on either side of the page end. -/
theorem jmpIndirectHasThePageBug : Obligations.JmpIndirectHasThePageBug := by
  unfold Obligations.JmpIndirectHasThePageBug
  intro s ptr
  have hind : exec (.jmpInd ptr) s = .next (s.setPC (s.jmpIndirectTarget ptr)) := rfl
  exact ⟨rfl, _, hind, rfl, State.read_setPC s _, s.jmpIndirectTarget_of_pageEnd, s.jmpIndirectTarget_of_not_pageEnd⟩

/-! Branches (R144). -/

/-- Flipping the sign bit of a byte adds 128, modulo 256. -/
theorem byte_flipSign_toNat (b : Byte) : (b ^^^ 0x80).toNat = (b.toNat + 128) % 256 := by
  have hlt := b.isLt
  have hlow : (b.toNat ^^^ 128) % 128 = b.toNat % 128 := by
    simpa using Nat.xor_mod_two_pow (a := b.toNat) (b := 128) (n := 7)
  have hhigh : (b.toNat ^^^ 128) / 128 = b.toNat / 128 ^^^ 1 := Nat.xor_div_two_pow (n := 7)
  rw [BitVec.toNat_xor, show (0x80 : Byte).toNat = 128 from rfl]
  obtain h | h : b.toNat / 128 = 0 ∨ b.toNat / 128 = 1 := by omega
  · rw [h, Nat.zero_xor] at hhigh
    omega
  · rw [h, Nat.xor_self] at hhigh
    omega

theorem signed8_eq (b : Byte) : signed8 b = if b.toNat < 128 then (b.toNat : Int) else (b.toNat : Int) - 256 := by
  rw [signed8, BitVec.toInt_eq_toNat_cond]
  split <;> split <;> omega

/-- A sign-extended byte is the signed value modulo 65536 (00_scope.md R11). -/
theorem sext16_toNat (b : Byte) : ((sext16 b).toNat : Int) = signed8 b % 65536 := by
  have hofInt : sext16 b = BitVec.ofInt 16 (signed8 b) := rfl
  rw [hofInt, BitVec.toNat_ofInt]
  omega

/-- The source's wrap-safe offset is the sign-extended one, raised by 128 (R144). -/
theorem zext16_flipSign (b : Byte) : zext16 (b ^^^ 0x80) = sext16 b + 0x80 := by
  apply BitVec.eq_of_toNat_eq
  have hlt := b.isLt
  have hsext := sext16_toNat b
  rw [signed8_eq] at hsext
  rw [zext16_toNat, byte_flipSign_toNat, BitVec.toNat_add, show (0x80 : Word).toNat = 128 from rfl]
  split at hsext <;> omega

theorem State.branchTarget_eq (s : State) (off : Byte) : s.branchTarget off = s.pc + 2 + sext16 off := by
  rw [State.branchTarget, zext16_flipSign, ← BitVec.add_assoc, BitVec.add_sub_cancel]

/-- Settles O30: the source's formula is the signed sum (`zext16_flipSign`), taken modulo 65536. -/
theorem branchTargetIsTheSignedOffset : Obligations.BranchTargetIsTheSignedOffset := by
  unfold Obligations.BranchTargetIsTheSignedOffset
  intro s off
  refine ⟨s.branchTarget_eq off, ?_⟩
  have hsext := sext16_toNat off
  rw [s.branchTarget_eq, BitVec.toNat_add, BitVec.toNat_add, show (2 : Word).toNat = 2 from rfl]
  omega

end Sys2Proof.Machine
end

section
/-! PROOF. The order of events at a fetch boundary (40_core_and_addressing.md R120, 60_exceptions.md R314 to R317,
70_reset_and_hazards.md R352, R353). The one idea: which event a boundary takes (`State.boundary_of_run`) is one thing,
and what a step does at that event another, so each clause is one lemma of either kind. -/

namespace Sys2Proof.Machine

section
variable {s : State}

/-! Which event a boundary takes (R120, R317). -/

/-- In Idle and Running the events come in this order (R120). -/
theorem State.boundary_of_run (hrun : s.run = .idle ∨ s.run = .running) :
    s.boundary =
      if s.stopReq then .halt
      else if s.pc = sentinelPc then .halt
      else if s.interruptPending then .interrupt
      else .fetch := by
  obtain h | h := hrun
  · rw [State.boundary, h]
  · rw [State.boundary, h]

/-- An interrupt is pending for an NMI, or for an IRQ with I clear, on lines the host drives (R314, R316, R317). -/
theorem State.interruptPending_iff :
    s.interruptPending = true ↔
      s.cfg.intLines = .hostDriven ∧ (s.nmiPending = true ∨ (s.irq = true ∧ s.flag .i = false)) := by
  unfold State.interruptPending
  cases s.cfg.intLines with
  | tiedInactive => simp
  | hostDriven => simp

/-! What a step does at each event (R120, R127). -/

theorem stepWith_of_halt (ctrl : Byte) (h : s.boundary = .halt) :
    stepWith ctrl s = .next { s with run := .halted } := by
  rw [stepWith, h]
  rfl

theorem stepWith_of_interrupt (ctrl : Byte) (h : s.boundary = .interrupt) :
    stepWith ctrl s = .next s.enterRunning.interruptEntry := by
  rw [stepWith, h]

theorem stepWith_of_fetch (ctrl : Byte) (h : s.boundary = .fetch) :
    stepWith ctrl s = fetchAndExec (s.readyToFetch ctrl) := by
  rw [stepWith, h]

/-- With HOST_CTRL = none the host writes nothing before the fetch (70_reset_and_hazards.md R361). -/
theorem State.readyToFetch_of_hostCtrl_none (ctrl : Byte) (h : s.cfg.hostCtrl = .none) :
    s.readyToFetch ctrl = { s with run := .running } := by
  have hcfg : s.enterRunning.cfg.hostCtrl = .none := h
  rw [State.readyToFetch, State.hostBoundary, hcfg]
  rfl

end

/-- Settles O12: the boundary's event under each clause's conditions, then what the step does at that event. -/
theorem boundaryEventsComeInOrder : Obligations.BoundaryEventsComeInOrder := by
  unfold Obligations.BoundaryEventsComeInOrder
  intro ctrl s hrun
  have hboundary := State.boundary_of_run hrun
  refine ⟨fun hstop => ?stop, fun hstop hpc => ?sentinel, fun hstop hpc hlines hline => ?interrupt,
    fun htied => ?tied, fun hnmi hi => ?masked⟩
  case stop => exact stepWith_of_halt ctrl (by rw [hboundary, if_pos hstop])
  case sentinel =>
    have hsentinel : s.pc = sentinelPc := hpc
    exact stepWith_of_halt ctrl (by rw [hboundary, if_pos hsentinel, ite_self])
  case interrupt =>
    have hsentinel : s.pc ≠ sentinelPc := hpc
    have hpending : s.interruptPending = true := State.interruptPending_iff.mpr ⟨hlines, hline⟩
    exact stepWith_of_interrupt ctrl (by simp [hboundary, hstop, hsentinel, hpending])
  case tied =>
    rw [← Bool.not_eq_true, State.interruptPending_iff]
    simp [htied]
  case masked =>
    rw [← Bool.not_eq_true, State.interruptPending_iff]
    simp [hnmi, hi]

/-- Settles O11: with no other event the boundary fetches, and a fetch runs what decode answers. -/
theorem stepRunsTheDecodedInstruction : Obligations.StepRunsTheDecodedInstruction := by
  unfold Obligations.StepRunsTheDecodedInstruction
  intro ctrl s i rest hrun hstop hpc hpending hdecode
  have hsentinel : s.pc ≠ sentinelPc := hpc
  have hfetch : s.boundary = .fetch := by
    simp [State.boundary_of_run hrun, hstop, hsentinel, hpending]
  exact ⟨(stepWith_of_fetch ctrl hfetch).trans (fetchAndExec_of_decode hdecode), rfl,
    State.readyToFetch_of_hostCtrl_none ctrl⟩

end Sys2Proof.Machine
end

section
/-! PROOF. Compares and accumulator shifts (40_core_and_addressing.md R147, R148, 43_arithmetic_logic.md R186 to R188,
44_shift_rotate.md R210 to R214). The one idea: both are one flag computation, whose flags and frame are known, before
PC moves past the instruction. -/

namespace Sys2Proof.Machine

/-! Compares. -/

theorem State.setsZN_compare (s : State) (reg m : Byte) : SetsZN (reg - m) (s.compare reg m) :=
  State.setsZN_setZN _ _

/-- Every compare form compares its register with its operand byte (R186, R187, R188). -/
theorem exec_compareForms {b : Byte} {w : Word} {i : Instr} {o : Operand} {r : Byte} {s : State}
    (h : (i, o) ∈ cmpForms b w ∧ r = s.a ∨ (i, o) ∈ cpxForms b w ∧ r = s.x ∨ (i, o) ∈ cpyForms b w ∧ r = s.y) :
    exec i s = .next ((s.compare r (o.value s)).advance o.length) := by
  obtain ⟨hform, rfl⟩ | ⟨hform, rfl⟩ | ⟨hform, rfl⟩ := h
  · exact exec_cmpForms hform s
  · exact exec_cpxForms hform s
  · exact exec_cpyForms hform s

/-- Settles O41: the flags are those of `Compare`, which changes P alone. -/
theorem comparesSetCarryAndZN : Obligations.ComparesSetCarryAndZN := by
  unfold Obligations.ComparesSetCarryAndZN
  intro s b w i o r h
  exact ⟨_, exec_compareForms h, rfl, s.flag_compare r (o.value s) .c, s.setsZN_compare r (o.value s),
    s.flagsKept_compare r (o.value s), memoryKept_of rfl rfl⟩

/-! What each shift and rotate does to a byte, as numbers (R210 to R213). -/

theorem aslStep_toNat (v : Byte) (c : Bool) : (aslStep v c).1.toNat = 2 * v.toNat % 256 := by
  rw [aslStep, BitVec.toNat_shiftLeft, Nat.shiftLeft_eq, Nat.mul_comm]

theorem lsrStep_toNat (v : Byte) (c : Bool) : (lsrStep v c).1.toNat = v.toNat / 2 := by
  rw [lsrStep, BitVec.toNat_ushiftRight, Nat.shiftRight_eq_div_pow]

theorem rolStep_toNat (v : Byte) (c : Bool) : (rolStep v c).1.toNat = (2 * v.toNat + c.toNat) % 256 := by
  have hbit := c.toNat_lt
  have hshift : (v <<< 1).toNat = 2 ^ 1 * (v.toNat % 128) := (aslStep_toNat v c).trans (by omega)
  have hcarry : ((BitVec.ofBool c).zeroExtend 8).toNat = c.toNat := by
    cases c <;> rfl
  rw [rolStep, BitVec.toNat_or, hshift, hcarry, ← Nat.two_pow_add_eq_or_of_lt hbit]
  omega

theorem rorStep_toNat (v : Byte) (c : Bool) : (rorStep v c).1.toNat = v.toNat / 2 + 128 * c.toNat := by
  have hlt := v.isLt
  have hshift : (v >>> 1).toNat = v.toNat / 2 := lsrStep_toNat v c
  have hcarry : ((BitVec.ofBool c).zeroExtend 8 <<< 7).toNat = 2 ^ 7 * c.toNat := by
    cases c <;> rfl
  rw [rorStep, BitVec.toNat_or, hshift, hcarry, Nat.or_comm, ← Nat.two_pow_add_eq_or_of_lt (by omega), Nat.add_comm]

theorem State.setsZN_shiftFlags (s : State) (r : Byte) (c : Bool) : SetsZN r (s.shiftFlags r c) :=
  State.setsZN_setZN _ _

/-- An accumulator form: A, C, Z and N are those its step on A and C gives, and nothing else changes (R147, R214). -/
theorem runImplied_shiftA (f : Byte → Bool → Byte × Bool) {s : State} {r : Byte}
    (hr : r.toNat = (f s.a (s.flag .c)).1.toNat) :
    ∃ t, runImplied (shiftA f) s = .next t ∧ t = { s with a := r, p := t.p, pc := s.pc + 1 } ∧
      t.flag .c = (f s.a (s.flag .c)).2 ∧ SetsZN r t ∧ FlagsKept s t [.c, .z, .n] ∧ MemoryKept s t := by
  obtain rfl := BitVec.eq_of_toNat_eq hr
  let u := s.setA (f s.a (s.flag .c)).1
  let c := (f s.a (s.flag .c)).2
  exact ⟨_, runImplied_eq _ s, rfl, u.flag_shiftFlags u.a c .c, u.setsZN_shiftFlags u.a c,
    u.flagsKept_shiftFlags u.a c, memoryKept_of rfl rfl⟩

/-- Settles O44: each form runs its step on A, whose result is the number the statement gives. -/
theorem accumulatorShiftsMoveOneBitThroughCarry : Obligations.AccumulatorShiftsMoveOneBitThroughCarry := by
  unfold Obligations.AccumulatorShiftsMoveOneBitThroughCarry
  intro s i r out c h
  obtain ⟨rfl, hr, rfl⟩ | ⟨rfl, hr, rfl⟩ | ⟨rfl, hr, rfl⟩ | ⟨rfl, hr, rfl⟩ := h
  · exact runImplied_shiftA aslStep (hr.trans (aslStep_toNat ..).symm)
  · exact runImplied_shiftA lsrStep (hr.trans (lsrStep_toNat ..).symm)
  · exact runImplied_shiftA rolStep (hr.trans (rolStep_toNat ..).symm)
  · exact runImplied_shiftA rorStep (hr.trans (rorStep_toNat ..).symm)

end Sys2Proof.Machine
end

section
/-! PROOF. Where an instruction that does not own PC leaves it, and the opcodes that always fault
(40_core_and_addressing.md R123, R127, 47_undocumented.md R277 to R283, 60_exceptions.md R303, R306). The one idea: such
an instruction runs a handler that leaves PC alone, and its operand form has the length of its encoding; which form
that is, each constructor says. -/

namespace Sys2Proof.Machine

/-- From every state the instruction ends past its encoding (40_core_and_addressing.md R123), or faults with nothing
else changed (60_exceptions.md R306). -/
def EndsPastEncoding (i : Instr) : Prop :=
  ∀ s, ∃ t, exec i s = .next t ∧
    (t.pc = s.pc + BitVec.ofNat 16 (encode i).length ∨ ∃ r, t = { s with run := .faulted, fault := some r })

section
variable {i : Instr} {o : Operand}

theorem EndsPastEncoding.of_implied {h : State → State} (hlength : BitVec.ofNat 16 (encode i).length = 1)
    (he : ∀ s, exec i s = runImplied h s) (hpc : ∀ s, (h s).pc = s.pc) : EndsPastEncoding i := by
  intro s
  refine ⟨_, (he s).trans (runImplied_eq h s), .inl ?_⟩
  rw [State.setPC_pc, hpc, hlength]

theorem EndsPastEncoding.of_read {h : Byte → State → State} (hlength : BitVec.ofNat 16 (encode i).length = o.length)
    (he : ∀ s, exec i s = runRead h o s) (hpc : ∀ m s, (h m s).pc = s.pc) : EndsPastEncoding i := by
  intro s
  refine ⟨_, (he s).trans (runRead_eq h o s), .inl ?_⟩
  rw [State.setPC_pc, hpc, hlength]

/-- Stores and read-modify-writes: one write, then what keeps PC. -/
theorem EndsPastEncoding.of_write {opcode : Byte} {v : State → Byte} {after : State → State → State}
    (hlength : BitVec.ofNat 16 (encode i).length = o.length)
    (he : ∀ s, exec i s = runWrite opcode o (v s) (after s) s) (hpc : ∀ s t, (after s t).pc = t.pc) :
    EndsPastEncoding i := by
  intro s
  obtain ⟨t, ht⟩ := exec_next i s
  refine ⟨t, ht, ?_⟩
  obtain ⟨-, rfl⟩ | ⟨-, rfl⟩ := runWrite_cases ((he s).symm.trans ht)
  · exact .inl (by rw [State.advance, State.setPC_pc, hpc, State.setRam_pc, hlength])
  · exact .inr ⟨_, State.takeFault_eq ..⟩

theorem EndsPastEncoding.of_fault {opcode : Byte} (he : ∀ s, exec i s = .next (s.takeFault .unmodelledOpcode opcode)) :
    EndsPastEncoding i :=
  fun s => ⟨_, he s, .inr ⟨_, State.takeFault_eq ..⟩⟩

/-- A jam moves PC past its opcode, although its descriptor says that it owns PC (60_exceptions.md R309). -/
theorem EndsPastEncoding.of_jam {opcode : Byte} (hlength : BitVec.ofNat 16 (encode i).length = 1)
    (he : ∀ s, exec i s = .next (s.takeJam opcode)) : EndsPastEncoding i :=
  fun s => ⟨_, he s, .inl (by rw [State.takeJam_eq, hlength])⟩

end

/-- Whether an instruction owns PC stands in the table at the first byte of its encoding (30_encoding.md R95). -/
theorem pcOwning_of_encode {i : Instr} {op : Byte} {operands : List Byte} {owns : Bool}
    (hencode : encode i = op :: operands) (h : (descriptorOf i).map (fun d => d.pcOwning) = some owns) :
    (descriptor op).map (fun d => d.pcOwning) = some owns := by
  rwa [descriptorOf, opcodeOf, hencode, List.headD_cons] at h

/-- Every instruction that does not own PC ends past its encoding: by the shape and the operand form of its meaning. -/
theorem endsPastEncoding_of_not_pcOwning {i : Instr}
    (h : (descriptorOf i).map (fun d => d.pcOwning) = some false) : EndsPastEncoding i := by
  cases i with
  | brk | rti | rts | jsrAbs | jmpAbs | jmpInd | bpl | bmi | bvc | bvs | bcc | bcs | bne | beq =>
    cases pcOwning_of_encode rfl h
  | jam => exact .of_jam rfl fun _ => rfl
  | aneImm | lxaImm | shaIndY | shaAbsY | shyAbsX | shxAbsY | tasAbsY => exact .of_fault fun _ => rfl
  | php | aslAcc | clc | nopImplied | plp | rolAcc | sec | pha | lsrAcc | cli | pla | rorAcc | sei | dey | txa |
    tya | txs | tay | tax | clv | tsx | iny | dex | cld | inx | nop | sed =>
    exact .of_implied rfl (fun _ => rfl) (fun _ => rfl)
  | staIndX | saxIndX | styZp | staZp | stxZp | saxZp | styAbs | staAbs | stxAbs | saxAbs | staIndY | styZpX |
    staZpX | stxZpY | saxZpY | staAbsY | staAbsX | sloIndX | aslZp | sloZp | aslAbs | sloAbs | sloIndY | aslZpX |
    sloZpX | sloAbsY | aslAbsX | sloAbsX | rlaIndX | rolZp | rlaZp | rolAbs | rlaAbs | rlaIndY | rolZpX | rlaZpX |
    rlaAbsY | rolAbsX | rlaAbsX | sreIndX | lsrZp | sreZp | lsrAbs | sreAbs | sreIndY | lsrZpX | sreZpX | sreAbsY |
    lsrAbsX | sreAbsX | rraIndX | rorZp | rraZp | rorAbs | rraAbs | rraIndY | rorZpX | rraZpX | rraAbsY | rorAbsX |
    rraAbsX | dcpIndX | decZp | dcpZp | decAbs | dcpAbs | dcpIndY | decZpX | dcpZpX | dcpAbsY | decAbsX | dcpAbsX |
    isbIndX | incZp | isbZp | incAbs | isbAbs | isbIndY | incZpX | isbZpX | isbAbsY | incAbsX | isbAbsX =>
    exact .of_write rfl (fun _ => rfl) (fun _ _ => rfl)
  | oraIndX | nopZp | oraZp | oraImm | ancImm | nopAbs | oraAbs | oraIndY | nopZpX | oraZpX | oraAbsY | nopAbsX |
    oraAbsX | andIndX | bitZp | andZp | andImm | bitAbs | andAbs | andIndY | andZpX | andAbsY | andAbsX | eorIndX |
    eorZp | eorImm | alrImm | eorAbs | eorIndY | eorZpX | eorAbsY | eorAbsX | adcIndX | adcZp | adcImm | arrImm |
    adcAbs | adcIndY | adcZpX | adcAbsY | adcAbsX | nopImm | ldyImm | ldaIndX | ldxImm | laxIndX | ldyZp | ldaZp |
    ldxZp | laxZp | ldaImm | ldyAbs | ldaAbs | ldxAbs | laxAbs | ldaIndY | laxIndY | ldyZpX | ldaZpX | ldxZpY |
    laxZpY | ldaAbsY | lasAbsY | ldyAbsX | ldaAbsX | ldxAbsY | laxAbsY | cpyImm | cmpIndX | cpyZp | cmpZp | cmpImm |
    sbxImm | cpyAbs | cmpAbs | cmpIndY | cmpZpX | cmpAbsY | cmpAbsX | cpxImm | sbcIndX | cpxZp | sbcZp | sbcImm |
    usbcImm | cpxAbs | sbcAbs | sbcIndY | sbcZpX | sbcAbsY | sbcAbsX =>
    exact .of_read rfl (fun _ => rfl) (fun _ _ => rfl)

/-- Settles O59: the descriptor's length is that of the encoding (O22). -/
theorem nonOwningInstructionsAdvancePcByTheirLength : Obligations.NonOwningInstructionsAdvancePcByTheirLength := by
  unfold Obligations.NonOwningInstructionsAdvancePcByTheirLength
  intro i s d hwf hd howning
  obtain ⟨hlengths, -⟩ := encodingLengthIsTheModes
  obtain ⟨d', hd', hlength, -⟩ := hlengths i hwf
  obtain rfl : d' = d := Option.some.inj (hd'.symm.trans hd)
  obtain ⟨t, hexec, hend⟩ := endsPastEncoding_of_not_pcOwning (by rw [hd, ← howning]; rfl) s
  refine ⟨t, hexec, fun hnofault => ?_⟩
  obtain hpc | ⟨r, hfault⟩ := hend
  · rw [hpc, hlength]
  · exact absurd hfault (hnofault r)

/-- Settles O58: each of the seven arms raises the fault with its own opcode. -/
theorem unstableOpcodesRaiseUnmodelledOpcode : Obligations.UnstableOpcodesRaiseUnmodelledOpcode := by
  unfold Obligations.UnstableOpcodesRaiseUnmodelledOpcode
  refine ⟨rfl, fun s b w i op h => ?_⟩
  have harm : opcodeOf i = op ∧ exec i s = .next (s.takeFault .unmodelledOpcode op) := by
    obtain ⟨rfl, rfl⟩ | ⟨rfl, rfl⟩ | ⟨rfl, rfl⟩ | ⟨rfl, rfl⟩ | ⟨rfl, rfl⟩ | ⟨rfl, rfl⟩ | ⟨rfl, rfl⟩ := h
    all_goals exact ⟨rfl, rfl⟩
  rwa [State.takeFault_eq] at harm

end Sys2Proof.Machine
end

section
/-! PROOF. Loads, transfers and stores (41_load_store_transfer.md R150 to R161, 47_undocumented.md R265). The one idea: a
load and a flag-setting transfer are one register write, which leaves P and memory alone, and `SetZN` of the byte
written; a store is one RAM write. -/

namespace Sys2Proof.Machine

/-! Loads and transfers. -/

/-- A flag depends on P alone. -/
theorem State.flag_congr {s t : State} (hp : t.p = s.p) (f : Flag) : t.flag f = s.flag f := by
  rw [State.flag, State.flag, State.getP, State.getP, hp]

/-- The flags and memory where `SetZN(r)` follows a register write `u` of `s` (R146). -/
theorem State.setZN_advance_frame {s u : State} (hp : u.p = s.p) (hram : u.ram = s.ram) (hcfg : u.cfg = s.cfg)
    (r : Byte) (length : Word) :
    SetsZN r ((u.setZN r).advance length) ∧ FlagsKept s ((u.setZN r).advance length) [.z, .n] ∧
      MemoryKept s ((u.setZN r).advance length) :=
  ⟨u.setsZN_setZN r, fun f hf => (u.flagsKept_setZN r f hf).trans (State.flag_congr hp f), memoryKept_of hram hcfg⟩

/-- Settles O31: every form writes M to its register, then sets Z and N from it. -/
theorem loadsSetTheRegisterAndZN : Obligations.LoadsSetTheRegisterAndZN := by
  unfold Obligations.LoadsSetTheRegisterAndZN
  intro s b w i o
  refine ⟨fun h => ?lda, fun h => ?ldx, fun h => ?ldy⟩
  case lda => exact ⟨_, exec_ldaForms h s, rfl, State.setZN_advance_frame rfl rfl rfl _ _⟩
  case ldx => exact ⟨_, exec_ldxForms h s, rfl, State.setZN_advance_frame rfl rfl rfl _ _⟩
  case ldy => exact ⟨_, exec_ldyForms h s, rfl, State.setZN_advance_frame rfl rfl rfl _ _⟩

/-- Settles O32: five transfers write their register, then set Z and N from it; TXS writes SP alone. -/
theorem transfersCopyTheRegister : Obligations.TransfersCopyTheRegister := by
  unfold Obligations.TransfersCopyTheRegister
  intro s
  refine ⟨?tax, ?tay, ?txa, ?tya, ?tsx, ?txs⟩
  case tax => exact ⟨_, runImplied_eq transferAX s, rfl, State.setZN_advance_frame rfl rfl rfl _ _⟩
  case tay => exact ⟨_, runImplied_eq transferAY s, rfl, State.setZN_advance_frame rfl rfl rfl _ _⟩
  case txa => exact ⟨_, runImplied_eq transferXA s, rfl, State.setZN_advance_frame rfl rfl rfl _ _⟩
  case tya => exact ⟨_, runImplied_eq transferYA s, rfl, State.setZN_advance_frame rfl rfl rfl _ _⟩
  case tsx => exact ⟨_, runImplied_eq transferSX s, rfl, State.setZN_advance_frame rfl rfl rfl _ _⟩
  case txs => exact ⟨_, runImplied_eq transferXS s, rfl, memoryKept_of rfl rfl⟩

/-! Stores. -/

/-- Every store form stores its byte (R153, R154, R155, 47_undocumented.md R265). -/
theorem exec_storeForms {b : Byte} {w : Word} {i : Instr} {o : Operand} {v : Byte} {s : State}
    (h : (i, o) ∈ staForms b w ∧ v = s.a ∨ (i, o) ∈ stxForms b w ∧ v = s.x ∨ (i, o) ∈ styForms b w ∧ v = s.y ∨
      (i, o) ∈ saxForms b w ∧ v = s.a &&& s.x) :
    exec i s = runStore (opcodeOf i) o v s := by
  obtain ⟨hform, rfl⟩ | ⟨hform, rfl⟩ | ⟨hform, rfl⟩ | ⟨hform, rfl⟩ := h
  · exact exec_staForms hform s
  · exact exec_stxForms hform s
  · exact exec_styForms hform s
  · exact exec_saxForms hform s

/-- A store to RAM writes the byte at its effective address, moves PC past the instruction and changes nothing else
(R145). -/
theorem runStore_of_inRam (opcode : Byte) {o : Operand} (v : Byte) {s : State} (h : InRam (o.ea s)) :
    ∃ t, runStore opcode o v s = .next t ∧ t = { s with ram := t.ram, pc := s.pc + o.length } ∧
      t.read (o.ea s) = v ∧ MemoryKeptBut s t (o.ea s) :=
  ⟨_, runWrite_ram opcode v id h, rfl, State.read_setRam_same s h v, fun _ hb => State.read_setRam_other s hb v⟩

/-- Settles O33: every form is a store, and its effective address is in RAM. -/
theorem storesWriteOneRamByte : Obligations.StoresWriteOneRamByte := by
  unfold Obligations.StoresWriteOneRamByte
  intro s b w i o v h hram
  rw [exec_storeForms h]
  exact runStore_of_inRam (opcodeOf i) v hram

end Sys2Proof.Machine
end

section
/-! PROOF. The stack instructions (42_stack.md R170 to R173). The one idea: the address `0x0100 + SP` is `stackAddr`, so
PHA and PHP are one `Push` and PLA and PLP one `Pop`, each followed by PC moving past the opcode. -/

namespace Sys2Proof.Machine

/-- An implied instruction that pushes a byte leaves it at the old SP, lowers SP, moves PC past the opcode and changes
nothing else (R170, R171, 20_memory.md R64). -/
theorem runImplied_push {h : State → State} {s : State} {v : Byte} (hpush : h s = s.push v) :
    ∃ t, runImplied h s = .next t ∧ t = { s with sp := s.sp - 1, ram := t.ram, pc := s.pc + 1 } ∧
      t.read (stackAddr s.sp) = v ∧ MemoryKeptBut s t (stackAddr s.sp) := by
  rw [runImplied_eq, hpush]
  exact ⟨_, rfl, rfl, s.read_push_same v, fun _ ha => s.read_push_other ha v⟩

/-- Settles O35: PHA pushes A, PHP the copy of P with bits 4 and 5 set. -/
theorem stackPushesWriteAtSp : Obligations.StackPushesWriteAtSp := by
  unfold Obligations.StackPushesWriteAtSp
  intro s
  refine ⟨?pha, ?php⟩
  case pha => exact runImplied_push (h := pushA) rfl
  case php => exact runImplied_push (h := pushP) rfl

/-- A restored P has bit 5 already, so that the write of P adds nothing to it (R173, 10_state.md R27). -/
theorem State.restoreP_eq (s : State) (v : Byte) : s.restoreP v = { s with p := (v &&& 0xEF) ||| 0x20 } := by
  rw [State.restoreP, State.setP, BitVec.or_assoc, BitVec.or_self]

/-- Settles O36: both pop the byte above SP; PLA writes it to A and then sets Z and N, PLP restores P from it. -/
theorem stackPullsReadAboveSp : Obligations.StackPullsReadAboveSp := by
  unfold Obligations.StackPullsReadAboveSp
  intro s v
  refine ⟨?pla, ?plp⟩
  case pla => exact ⟨_, runImplied_eq pullA s, rfl, State.setZN_advance_frame rfl rfl rfl v 1⟩
  case plp =>
    refine ⟨_, runImplied_eq pullP s, ?_, memoryKept_of rfl rfl⟩
    rw [pullP, State.restoreP_eq]
    rfl

end Sys2Proof.Machine
end

section
/-! PROOF. Arithmetic and logic (43_arithmetic_logic.md R180 to R185, R189 to R195, 47_undocumented.md R273). The one
idea: the adder's result, carry and overflow are facts about three numbers, proved once; SBC is the adder on `M ^ 0xFF`,
which is `255 - M` and, signed, `-1 - M`. BIT writes three flags and nothing else; every other instruction here is one
result byte and `SetZN` of it. -/

namespace Sys2Proof.Machine

/-! The adder (R195). -/

theorem adderResult_toNat (a m : Byte) (c : Bool) : (adderResult a m c).toNat = adderSum a m c % 256 :=
  BitVec.toNat_ofNat _ _

theorem byte_and_signBit_ne_zero_iff (b : Byte) : b &&& 0x80 ≠ 0 ↔ b.msb = true := by
  rw [show (0x80 : Byte) = BitVec.twoPow 8 7 from rfl, BitVec.and_twoPow, BitVec.msb_eq_getLsbD_last]
  split <;> simp_all

/-- The overflow formula says that the operand and the old accumulator have one sign and the result the other. -/
theorem adderOverflow_iff_msb (a m r : Byte) : adderOverflow a m r = true ↔ m.msb ≠ r.msb ∧ a.msb ≠ r.msb := by
  rw [adderOverflow, decide_eq_true_iff, byte_and_signBit_ne_zero_iff, BitVec.msb_and, BitVec.msb_xor, BitVec.msb_xor,
    Bool.and_eq_true, Bool.xor_iff_ne, Bool.xor_iff_ne, ne_comm (a := r.msb)]

/-- The overflow formula says that the signed sum is no signed byte. -/
theorem adderOverflow_iff_signed (a m : Byte) (c : Bool) :
    adderOverflow a m (adderResult a m c) = true ↔
      signed8 a + signed8 m + c.toNat < -128 ∨ 127 < signed8 a + signed8 m + c.toNat := by
  have ha := a.isLt
  have hm := m.isLt
  have hc := c.toNat_lt
  have hr := adderResult_toNat a m c
  rw [adderSum] at hr
  rw [adderOverflow_iff_msb, BitVec.msb_eq_decide, BitVec.msb_eq_decide, BitVec.msb_eq_decide, ne_eq, ne_eq,
    decide_eq_decide, decide_eq_decide, signed8_eq, signed8_eq]
  split <;> split <;> omega

theorem State.setsZN_addWithCarry (s : State) (m : Byte) :
    SetsZN (adderResult s.a m (s.flag .c)) (s.addWithCarry m) :=
  State.setsZN_setZN _ _

/-- A read instruction whose handler is the adder on a byte `n`: A, C, V, Z and N are those of the adder, and nothing
else changes. -/
theorem runRead_addWithCarry {h : Byte → State → State} {o : Operand} {s : State} {n : Byte}
    (hn : h (o.value s) s = s.addWithCarry n) :
    ∃ t, runRead h o s = .next t ∧ t = { s with a := t.a, p := t.p, pc := s.pc + o.length } ∧
      t.a = adderResult s.a n (s.flag .c) ∧ t.flag .c = adderCarry s.a n (s.flag .c) ∧
      t.flag .v = adderOverflow s.a n t.a ∧ SetsZN t.a t ∧ FlagsKept s t [.c, .v, .z, .n] ∧ MemoryKept s t := by
  rw [runRead_eq, hn]
  exact ⟨_, rfl, rfl, rfl, s.flag_addWithCarry n .c, s.flag_addWithCarry n .v, s.setsZN_addWithCarry n,
    s.flagsKept_addWithCarry n, memoryKept_of rfl rfl⟩

/-- Settles O37: every form is the adder on M, whatever D holds. -/
theorem adcAddsWithCarry : Obligations.AdcAddsWithCarry := by
  unfold Obligations.AdcAddsWithCarry
  intro s b w i o h m sum
  rw [exec_adcForms h]
  obtain ⟨t, hexec, hframe, ha, hc, hv, hkept⟩ := runRead_addWithCarry (h := addA) (o := o) (s := s) rfl
  refine ⟨t, hexec, hframe, ?result, hc, hv, ?overflow, hkept⟩
  case result =>
    rw [ha]
    exact adderResult_toNat s.a m (s.flag .c)
  case overflow =>
    rw [hv, ha]
    exact adderOverflow_iff_signed s.a m (s.flag .c)

/-! The inverted operand (R181). -/

theorem byte_inverted_toNat (m : Byte) : (m ^^^ 0xFF).toNat = 255 - m.toNat := by
  rw [show (0xFF : Byte) = BitVec.allOnes 8 from rfl, BitVec.xor_allOnes, BitVec.toNat_not]

theorem signed8_inverted (m : Byte) : signed8 (m ^^^ 0xFF) = -1 - signed8 m := by
  have hm := m.isLt
  rw [signed8_eq, signed8_eq, byte_inverted_toNat]
  split <;> split <;> omega

/-- The sum with the inverted operand is the difference with borrow, raised by 256. -/
theorem adderSum_inverted (a m : Byte) (c : Bool) :
    (adderSum a (m ^^^ 0xFF) c : Int) = (a.toNat : Int) - m.toNat - (1 - c.toNat) + 256 := by
  have hm := m.isLt
  rw [adderSum, byte_inverted_toNat]
  omega

theorem adderResult_inverted (a m : Byte) (c : Bool) :
    ((adderResult a (m ^^^ 0xFF) c).toNat : Int) = ((a.toNat : Int) - m.toNat - (1 - c.toNat)) % 256 := by
  rw [adderResult_toNat, Int.natCast_emod, adderSum_inverted]
  exact Int.add_emod_right ..

/-- The carry of the subtraction is no borrow. -/
theorem adderCarry_inverted (a m : Byte) (c : Bool) :
    adderCarry a (m ^^^ 0xFF) c = decide ((a.toNat : Int) - m.toNat - (1 - c.toNat) ≥ 0) := by
  have hsum := adderSum_inverted a m c
  rw [adderCarry, decide_eq_decide]
  omega

/-- Every form of SBC, and USBC, is the adder on the inverted operand (R181, 47_undocumented.md R273). -/
theorem exec_subtractForms {b : Byte} {w : Word} {i : Instr} {o : Operand}
    (h : (i, o) ∈ sbcForms b w ++ usbcForms b w) (s : State) : exec i s = runRead subtractA o s := by
  obtain hsbc | husbc := List.mem_append.mp h
  · exact exec_sbcForms hsbc s
  · exact exec_usbcForms husbc s

/-- The overflow formula on the inverted operand says that the signed difference is no signed byte. -/
theorem adderOverflow_inverted_iff_signed (a m : Byte) (c : Bool) :
    adderOverflow a (m ^^^ 0xFF) (adderResult a (m ^^^ 0xFF) c) = true ↔
      signed8 a - signed8 m - (1 - c.toNat) < -128 ∨ 127 < signed8 a - signed8 m - (1 - c.toNat) := by
  rw [adderOverflow_iff_signed, signed8_inverted]
  omega

/-- Settles O38: every form is the adder on `M ^ 0xFF`, whose sum is the difference raised by 256. -/
theorem sbcSubtractsWithBorrow : Obligations.SbcSubtractsWithBorrow := by
  unfold Obligations.SbcSubtractsWithBorrow
  intro s b w i o h m difference signed
  rw [exec_subtractForms h]
  obtain ⟨t, hexec, hframe, ha, hc, hv, hkept⟩ := runRead_addWithCarry (h := subtractA) (o := o) (s := s) rfl
  refine ⟨t, hexec, hframe, ?result, ?carry, hv, ?overflow, hkept⟩
  case result =>
    rw [ha]
    exact adderResult_inverted s.a m (s.flag .c)
  case carry => exact hc.trans (adderCarry_inverted s.a m (s.flag .c))
  case overflow =>
    rw [hv, ha]
    exact adderOverflow_inverted_iff_signed s.a m (s.flag .c)

/-! Logic. -/

/-- Every form of AND, ORA and EOR writes its combination to A, then sets Z and N from it (R182, R183, R184). -/
theorem exec_logicForms {b : Byte} {w : Word} {i : Instr} {o : Operand} {r : Byte} {s : State}
    (h : (i, o) ∈ andForms b w ∧ r = s.a &&& o.value s ∨ (i, o) ∈ oraForms b w ∧ r = s.a ||| o.value s ∨
      (i, o) ∈ eorForms b w ∧ r = s.a ^^^ o.value s) :
    exec i s = .next (((s.setA r).setZN r).advance o.length) := by
  obtain ⟨hform, rfl⟩ | ⟨hform, rfl⟩ | ⟨hform, rfl⟩ := h
  · exact exec_andForms hform s
  · exact exec_oraForms hform s
  · exact exec_eorForms hform s

/-- Settles O39: every form writes A, then sets Z and N. -/
theorem logicCombinesAWithM : Obligations.LogicCombinesAWithM := by
  unfold Obligations.LogicCombinesAWithM
  intro s b w i o r h
  exact ⟨_, exec_logicForms h, rfl, State.setZN_advance_frame rfl rfl rfl r o.length⟩

/-- The flags of BIT: Z of `A & M`, V and N from M, every other flag unchanged (R185). -/
theorem flag_testBits (m : Byte) (s : State) (g : Flag) :
    (testBits m s).flag g = match g with
      | .z => s.a &&& m == 0
      | .v => m.getLsbD 6
      | .n => m.getLsbD 7
      | g => s.flag g := by
  cases g <;> simp [testBits, State.flag_putFlag]

theorem flagsKept_testBits (m : Byte) (s : State) : FlagsKept s (testBits m s) [.z, .v, .n] := by
  intro f hf
  rw [flag_testBits]
  revert hf
  cases f <;> simp

/-- Settles O40: both forms write three flags and nothing else. -/
theorem bitTestsTheOperand : Obligations.BitTestsTheOperand := by
  unfold Obligations.BitTestsTheOperand
  intro s b w i o h
  exact ⟨_, exec_bitForms h s, rfl, flag_testBits (o.value s) s .z, flag_testBits (o.value s) s .v,
    flag_testBits (o.value s) s .n, flagsKept_testBits (o.value s) s, memoryKept_of rfl rfl⟩

/-! Increments and decrements. -/

theorem byte_pred_toNat (b : Byte) : (b - 1).toNat = (b.toNat + 255) % 256 := by
  rw [BitVec.toNat_sub, Nat.add_comm]
  rfl

/-- A counting instruction on RAM writes its byte, sets Z and N from it, moves PC past the instruction and changes
nothing else (R189, R190). -/
theorem runModify_setCounted_of_inRam (opcode : Byte) (f : Byte → Bool → Byte × Bool) {o : Operand} {r : Byte}
    {s : State} (hr : r.toNat = (f (o.value s) (s.flag .c)).1.toNat) (hram : InRam (o.ea s)) :
    ∃ t, runModify opcode f setCounted o s = .next t ∧
      t = { s with p := t.p, ram := t.ram, pc := s.pc + o.length } ∧
      t.read (o.ea s) = r ∧ MemoryKeptBut s t (o.ea s) ∧ SetsZN r t ∧ FlagsKept s t [.z, .n] := by
  obtain rfl := BitVec.eq_of_toNat_eq hr
  let r := (f (o.value s) (s.flag .c)).1
  let u := s.setRam (s.ram.write (o.ea s).toNat r)
  obtain ⟨hzn, hflags, hread⟩ := State.setZN_advance_frame (s := u) (u := u) rfl rfl rfl r o.length
  exact ⟨_, runWrite_ram opcode r (setCounted r _) hram, rfl, (hread _).trans (State.read_setRam_same s hram r),
    fun addr haddr => (hread addr).trans (State.read_setRam_other s haddr r), hzn, hflags⟩

/-- Settles O42: INC and DEC count a RAM byte, the other four a register; Z and N follow. -/
theorem incrementsAndDecrementsWrap : Obligations.IncrementsAndDecrementsWrap := by
  unfold Obligations.IncrementsAndDecrementsWrap
  refine ⟨fun s b w i o r h hram => ?memory, fun s => ⟨?inx, ?iny, ?dex, ?dey⟩⟩
  case memory =>
    obtain ⟨hform, hr⟩ | ⟨hform, hr⟩ := h
    · rw [exec_incForms hform]
      exact runModify_setCounted_of_inRam (opcodeOf i) increment (hr.trans (BitVec.toNat_add _ 1).symm) hram
    · rw [exec_decForms hform]
      exact runModify_setCounted_of_inRam (opcodeOf i) decrement (hr.trans (byte_pred_toNat _).symm) hram
  case inx =>
    exact ⟨_, runImplied_eq incrementX s, rfl, BitVec.toNat_add s.x 1, State.setZN_advance_frame rfl rfl rfl _ _⟩
  case iny =>
    exact ⟨_, runImplied_eq incrementY s, rfl, BitVec.toNat_add s.y 1, State.setZN_advance_frame rfl rfl rfl _ _⟩
  case dex =>
    exact ⟨_, runImplied_eq decrementX s, rfl, byte_pred_toNat s.x, State.setZN_advance_frame rfl rfl rfl _ _⟩
  case dey =>
    exact ⟨_, runImplied_eq decrementY s, rfl, byte_pred_toNat s.y, State.setZN_advance_frame rfl rfl rfl _ _⟩

end Sys2Proof.Machine
end

section
/-! PROOF. Memory shifts and rotates (44_shift_rotate.md R210 to R214). The one idea: the RAM write leaves every flag
alone and the flag part leaves memory alone, so the byte is that of the write, and C, Z and N are those of the shift. -/

namespace Sys2Proof.Machine

/-- A memory form on RAM: the byte, C, Z and N are those its step on M and C gives, PC moves past the instruction, and
nothing else changes (R214). -/
theorem runModify_setShifted_of_inRam (opcode : Byte) (f : Byte → Bool → Byte × Bool) {o : Operand} {r : Byte}
    {s : State} (hr : r.toNat = (f (o.value s) (s.flag .c)).1.toNat) (hram : InRam (o.ea s)) :
    ∃ t, runModify opcode f setShifted o s = .next t ∧
      t = { s with p := t.p, ram := t.ram, pc := s.pc + o.length } ∧
      t.read (o.ea s) = r ∧ MemoryKeptBut s t (o.ea s) ∧ t.flag .c = (f (o.value s) (s.flag .c)).2 ∧ SetsZN r t ∧
      FlagsKept s t [.c, .z, .n] := by
  obtain rfl := BitVec.eq_of_toNat_eq hr
  let r := (f (o.value s) (s.flag .c)).1
  let c := (f (o.value s) (s.flag .c)).2
  let u := s.setRam (s.ram.write (o.ea s).toNat r)
  exact ⟨_, runWrite_ram opcode r (setShifted r c) hram, rfl, State.read_setRam_same s hram r,
    fun addr haddr => State.read_setRam_other s haddr r, u.flag_shiftFlags r c .c, u.setsZN_shiftFlags r c,
    u.flagsKept_shiftFlags r c⟩

/-- Settles O43: each form runs its step on M, whose result is the number the statement gives. -/
theorem shiftsMoveOneBitThroughCarry : Obligations.ShiftsMoveOneBitThroughCarry := by
  unfold Obligations.ShiftsMoveOneBitThroughCarry
  intro s b w i o r out m c h hram
  obtain ⟨hform, hr, rfl⟩ | ⟨hform, hr, rfl⟩ | ⟨hform, hr, rfl⟩ | ⟨hform, hr, rfl⟩ := h
  · rw [exec_aslForms hform]
    exact runModify_setShifted_of_inRam (opcodeOf i) aslStep (hr.trans (aslStep_toNat ..).symm) hram
  · rw [exec_lsrForms hform]
    exact runModify_setShifted_of_inRam (opcodeOf i) lsrStep (hr.trans (lsrStep_toNat ..).symm) hram
  · rw [exec_rolForms hform]
    exact runModify_setShifted_of_inRam (opcodeOf i) rolStep (hr.trans (rolStep_toNat ..).symm) hram
  · rw [exec_rorForms hform]
    exact runModify_setShifted_of_inRam (opcodeOf i) rorStep (hr.trans (rorStep_toNat ..).symm) hram

end Sys2Proof.Machine
end

section
/-! PROOF. Subroutines, BRK, RTI and branches (45_control_flow.md R222 to R236). The one idea: each of these is one
shared operation on the stack or on PC whose whole next state is one equation, so the return of RTS after JSR is the
pull of R223 at the two slots that R222 wrote. -/

namespace Sys2Proof.Machine

/-! Subroutines (R222, R223, R224). -/

/-- Settles O45: JSR is a push of a word and RTS a pull of one, each followed by a write of PC. -/
theorem jsrAndRtsUseTheStack : Obligations.JsrAndRtsUseTheStack := by
  unfold Obligations.JsrAndRtsUseTheStack
  intro s target
  refine ⟨?jsr, ?rts⟩
  case jsr =>
    have hexec : exec (.jsrAbs target) s = .next ((s.pushWord (s.pc + 2)).setPC target) := rfl
    exact ⟨_, hexec, congrArg (·.setPC target) (s.pushWord_eq (s.pc + 2)), s.read_pushWord (s.pc + 2)⟩
  case rts =>
    have hexec : exec .rts s = .next (s.popWord.2.setPC (s.popWord.1 + 1)) := rfl
    rw [hexec, s.popWord_eq]
    rfl

/-- Settles O46: RTS pulls from the two slots JSR pushed to, so it adds 1 to PC + 2. -/
theorem rtsAfterJsrReturnsPastTheJsr : Obligations.RtsAfterJsrReturnsPastTheJsr := by
  unfold Obligations.RtsAfterJsrReturnsPastTheJsr
  intro s target q
  obtain ⟨⟨t, hjsr, hframe, hhi, hlo, -⟩, -⟩ := jsrAndRtsUseTheStack s target
  obtain ⟨-, hrts⟩ := jsrAndRtsUseTheStack { t with pc := q } target
  have hsp : t.sp = s.sp - 2 := congrArg State.sp hframe
  have hlow : t.sp + 1 = s.sp - 1 := by rw [hsp]; bv_omega
  have hhigh : t.sp + 2 = s.sp := by rw [hsp, BitVec.sub_add_cancel]
  have hpc : wordOf (t.read (stackAddr (t.sp + 2))) (t.read (stackAddr (t.sp + 1))) + 1 = s.pc + 3 := by
    rw [hlow, hhigh, hhi, hlo, wordOf_hi8_lo8, BitVec.add_assoc]
    rfl
  refine ⟨t, _, hjsr, hrts, ?_⟩
  change { t with sp := t.sp + 2, pc := wordOf (t.read (stackAddr (t.sp + 2))) (t.read (stackAddr (t.sp + 1))) + 1 } = _
  rw [hpc, hhigh, hframe]

/-! BRK and RTI (R226, R227). -/

/-- Handler entry through a vector in the ROM window: SP goes down by 3, PC comes from the vector, and besides them
only P and RAM change (R226, 60_exceptions.md R318). -/
theorem State.enterHandler_frame (s : State) (ret : Word) (pushedP : Byte) {vector : Word}
    (h0 : ¬ vector.toNat < 0x8000) (h1 : ¬ (vector + 1).toNat < 0x8000) :
    s.enterHandler ret pushedP vector =
      { s with
        sp := s.sp - 3
        p := (s.enterHandler ret pushedP vector).p
        ram := (s.enterHandler ret pushedP vector).ram
        pc := s.read16 vector } := by
  rw [← s.enterHandler_pc ret pushedP h0 h1]
  exact s.enterHandler_eq ret pushedP vector

/-- Settles O47: BRK is handler entry with PC + 2 and the copy of P that has B set. -/
theorem brkPushesAndVectors : Obligations.BrkPushesAndVectors := by
  unfold Obligations.BrkPushesAndVectors
  intro s
  have hexec : exec .brk s = .next (s.enterHandler (s.pc + 2) s.pushedByBreak irqVector) := rfl
  exact ⟨_, hexec, s.enterHandler_frame (s.pc + 2) s.pushedByBreak (by decide) (by decide),
    s.flag_enterHandler (s.pc + 2) s.pushedByBreak irqVector .i,
    s.flagsKept_enterHandler (s.pc + 2) s.pushedByBreak irqVector,
    s.read_enterHandler (s.pc + 2) s.pushedByBreak irqVector⟩

/-- What a return from a handler answers: P from the slot above SP, PC from the two slots above that, low byte first
(R227). -/
theorem State.returnFromHandler_eq (s : State) :
    s.returnFromHandler =
      { s with
        sp := s.sp + 3
        p := (s.read (stackAddr (s.sp + 1)) &&& 0xEF) ||| 0x20
        pc := wordOf (s.read (stackAddr (s.sp + 3))) (s.read (stackAddr (s.sp + 2))) } := by
  have hlow : s.sp + 1 + 1 = s.sp + 2 := by rw [BitVec.add_assoc]; rfl
  have hhigh : s.sp + 1 + 2 = s.sp + 3 := by rw [BitVec.add_assoc]; rfl
  rw [State.returnFromHandler, State.pop_eq, State.restoreP_eq, State.popWord_eq, ← hlow, ← hhigh]
  rfl

/-- Settles O48: RTI is the return from a handler. -/
theorem rtiRestoresStatusAndPc : Obligations.RtiRestoresStatusAndPc := by
  unfold Obligations.RtiRestoresStatusAndPc
  intro s
  have hexec : exec .rti s = .next s.returnFromHandler := rfl
  rw [hexec, s.returnFromHandler_eq]

/-! Branches (R228 to R236). -/

/-- A branch adds the signed offset to the address after it, or nothing (R228). -/
theorem runBranch_eq (taken : Bool) (off : Byte) (s : State) :
    runBranch taken off s = .next { s with pc := s.pc + 2 + (if taken then sext16 off else 0) } := by
  have htarget : (if taken then s.branchTarget off else s.pc + 2) = s.pc + 2 + (if taken then sext16 off else 0) := by
    cases taken with
    | true => exact s.branchTarget_eq off
    | false => exact (BitVec.add_zero (s.pc + 2)).symm
  rw [runBranch, htarget]
  rfl

/-- Settles O50: each of the eight is `Branch` on its flag or the flag's complement. -/
theorem branchesTestOneFlag : Obligations.BranchesTestOneFlag := by
  unfold Obligations.BranchesTestOneFlag
  intro s off i taken h
  have hexec : exec i s = runBranch taken off s := by
    obtain ⟨rfl, rfl⟩ | ⟨rfl, rfl⟩ | ⟨rfl, rfl⟩ | ⟨rfl, rfl⟩ |
      ⟨rfl, rfl⟩ | ⟨rfl, rfl⟩ | ⟨rfl, rfl⟩ | ⟨rfl, rfl⟩ := h <;> rfl
  rw [hexec, runBranch_eq]

end Sys2Proof.Machine
end

section
/-! PROOF. Flag instructions and NOPs (46_flags_nop.md R250 to R257, 47_undocumented.md R275). The one idea: each of the
seven flag instructions is one write of a flag other than bit 5, and each NOP is an instruction whose handler leaves the
state as it is, so that only the move of PC past it remains. -/

namespace Sys2Proof.Machine

/-- A flag other than bit 5 reads as it was written (10_state.md R27, R35). -/
theorem State.flag_putFlag_same (s : State) {f : Flag} (hf : f ≠ .u) (on : Bool) : (s.putFlag f on).flag f = on := by
  rw [State.flag_putFlag, if_neg hf, if_pos rfl]

/-- An implied instruction that writes a flag other than bit 5 moves PC past the opcode and changes nothing else. -/
theorem runImplied_putFlag (s : State) {f : Flag} (hf : f ≠ .u) (on : Bool) :
    ∃ t, runImplied (fun u => u.putFlag f on) s = .next t ∧ t = { s with p := t.p, pc := s.pc + 1 } ∧
      t.flag f = on ∧ FlagsKept s t [f] ∧ MemoryKept s t :=
  ⟨_, runImplied_eq _ s, rfl, s.flag_putFlag_same hf on, s.flagsKept_putFlag f on, memoryKept_of rfl rfl⟩

/-- Settles O51: each of the seven is one write of its flag. -/
theorem flagInstructionsWriteOneFlag : Obligations.FlagInstructionsWriteOneFlag := by
  unfold Obligations.FlagInstructionsWriteOneFlag
  intro s i f on h
  have hexec : exec i s = runImplied (fun u => u.putFlag f on) s ∧ f ≠ .u := by
    obtain ⟨rfl, rfl, rfl⟩ | ⟨rfl, rfl, rfl⟩ | ⟨rfl, rfl, rfl⟩ | ⟨rfl, rfl, rfl⟩ |
      ⟨rfl, rfl, rfl⟩ | ⟨rfl, rfl, rfl⟩ | ⟨rfl, rfl, rfl⟩ := h <;> exact ⟨rfl, by decide⟩
  obtain ⟨hrun, hf⟩ := hexec
  rw [hrun]
  exact runImplied_putFlag s hf on

/-- Settles O52: the implied NOPs have the identity as their handler, and the others ignore the byte they read. -/
theorem nopsChangeOnlyPc : Obligations.NopsChangeOnlyPc := by
  unfold Obligations.NopsChangeOnlyPc
  intro s op b w i o
  refine ⟨?documented, ?implied, fun hform => ?operand⟩
  case documented => exact runImplied_eq id s
  case implied => exact runImplied_eq id s
  case operand => exact (exec_nopForms hform s).trans (runRead_eq ignoreOperand o s)

end Sys2Proof.Machine
end

section
/-! PROOF. The host's operations between steps (70_reset_and_hazards.md R340, R341, R354 to R356, R360, R361). The one
idea: reset asks nothing of the state it starts from but RAM and the configuration, so the invariant holds after it
from every such state, and construction is a reset. -/

namespace Sys2Proof.Machine

/-! Reset and construction (R340, R341). -/

theorem resetPc_of_entryPc {cfg : Config} {e : Word} (h : cfg.entryPc = some e) : cfg.resetPc = e := by
  rw [Config.resetPc, h]

/-- Without `ENTRY_PC` the reset PC is the bus's word at the reset vector, which lies in the ROM window (20_memory.md
R51, R60). -/
theorem State.resetPc_of_no_entryPc {s : State} (h : s.cfg.entryPc = none) : s.cfg.resetPc = s.read16 0xFFFC := by
  have hvector : s.read16 resetVector =
      wordOf (s.cfg.cart.romRead (resetVector + 1)) (s.cfg.cart.romRead resetVector) := by
    rw [State.read16, State.read_rom s (by decide), State.read_rom s (by decide)]
  rw [Config.resetPc, h]
  exact hvector.symm

/-- Settles O2: every value but PC is the one `Reset()` writes, and PC is the reset PC. -/
theorem resetOperationSetsTheResetValues : Obligations.ResetOperationSetsTheResetValues := by
  unfold Obligations.ResetOperationSetsTheResetValues
  intro s
  cases h : s.cfg.entryPc with
  | some e => rw [State.applyReset, resetPc_of_entryPc h]
  | none => rw [State.applyReset, State.resetPc_of_no_entryPc h]

theorem construct_of_loadImage_error {image : List Byte} {e : LoadError} (h : loadImage image = .error e)
    (ramInit : Memory) (entryPc : Option Word) (hostCtrl : HostCtrl) (intLines : IntLines) (trace : Bool) :
    construct image ramInit entryPc hostCtrl intLines trace = .error e := by
  rw [construct, h]

theorem construct_of_loadImage_ok {image : List Byte} {cart : Cartridge} (h : loadImage image = .ok cart)
    (ramInit : Memory) (entryPc : Option Word) (hostCtrl : HostCtrl) (intLines : IntLines) (trace : Bool) :
    construct image ramInit entryPc hostCtrl intLines trace =
      .ok (State.poweredOn ramInit
        { cart := cart, entryPc := entryPc, hostCtrl := hostCtrl, intLines := intLines
          trace := trace }).applyReset := by
  rw [construct, h]

/-- Settles O3: a construction is the loader, then a reset of the powered-on state. -/
theorem constructionLoadsThenResets : Obligations.ConstructionLoadsThenResets := by
  unfold Obligations.ConstructionLoadsThenResets
  intro image ramInit entryPc hostCtrl intLines trace
  refine ⟨fun e h => construct_of_loadImage_error h .., fun cart h =>
    ⟨_, construct_of_loadImage_ok h .., rfl, rfl, rfl, fun hwf addr haddr => ?ram⟩⟩
  case ram =>
    rw [State.read_ram _ haddr]
    exact Memory.read_normal hwf haddr

/-! The invariant (10_state.md R27, R28, R39, R40, R42). -/

/-- Reset meets the invariant from every state whose RAM and configuration meet their parts of it. -/
theorem boundaryInv_applyReset {s : State} (hwf : s.ram.wf = true) (hbelow : s.ram.below 0x8000 = true)
    (hcfg : s.cfg.wellFormed = true) : BoundaryInv s.applyReset := by
  have h5 : (0x24 : Byte).getLsbD 5 = true := by decide
  have h4 : (0x24 : Byte).getLsbD 4 = false := by decide
  have hrecord : RecordFits .idle none := ⟨by decide, by decide⟩
  exact ⟨h5, h4, hwf, hbelow, hcfg, hrecord, fun _ => ⟨rfl, rfl⟩⟩

/-- Host-driven lines may take any level: the invariant speaks of tied lines alone (10_state.md R40). -/
theorem BoundaryInv.setLines {s : State} (hs : BoundaryInv s) (hlines : s.cfg.intLines = .hostDriven)
    (irq nmiPending : Bool) : BoundaryInv { s with irq := irq, nmiPending := nmiPending } := by
  obtain ⟨h5, h4, hwf, hbelow, hcfg, hrecord, -⟩ := hs
  exact ⟨h5, h4, hwf, hbelow, hcfg, hrecord, fun htied => by simp [hlines] at htied⟩

/-- Settles O8: reset meets the invariant from any RAM and configuration that do, the stop request is no part of it, and
the lines change only where the host drives them. -/
theorem hostOperationsKeepTheInvariant : Obligations.HostOperationsKeepTheInvariant := by
  unfold Obligations.HostOperationsKeepTheInvariant
  intro s o hs
  cases o with
  | reset =>
    obtain ⟨-, -, hwf, hbelow, hcfg, -⟩ := hs
    exact boundaryInv_applyReset hwf hbelow hcfg
  | requestStop => exact hs
  | setIrq level =>
    rw [State.afterHost, State.setIrqLevel]
    split
    next => exact hs
    next hlines => exact hs.setLines hlines level s.nmiPending
  | assertNmi =>
    rw [State.afterHost, State.assertNmi]
    split
    next => exact hs
    next hlines => exact hs.setLines hlines s.irq true

/-- Bytes laid out from 0 on lie below every bound that their number does not exceed. -/
theorem below_ofBytesAt_zero {bytes : List Byte} {n : Nat} (h : bytes.length ≤ n) :
    (Memory.ofBytesAt 0 bytes).below n = true := by
  have hbelow := Memory.below_iff.mp (Memory.below_ofBytesAt 0 bytes)
  exact Memory.below_iff.mpr fun c hc => by have := hbelow c hc; omega

/-- A cartridge that loads is one the model admits (20_memory.md R77, R78). -/
theorem wellFormed_of_loadImage {image : List Byte} {cart : Cartridge} (h : loadImage image = .ok cart) :
    cart.wellFormed = true := by
  obtain ⟨hmapper, size, hsize, rfl⟩ := eq_imageCartridge_of_loadImage h
  have hprg : (Memory.ofBytesAt 0 (imagePrg image)).below size.bytes = true :=
    below_ofBytesAt_zero (by rw [admittedPrgSize_eq_some_iff.mp hsize]; exact List.length_take_le _ _)
  have hchr : (Memory.ofBytesAt 0 (imageChr image)).below (imageChrLength image) = true :=
    below_ofBytesAt_zero (List.length_take_le _ _)
  simp [Cartridge.wellFormed, imageCartridge, Memory.wf_ofBytesAt, hprg, hchr, hmapper]

/-- A constructed core meets the invariant (R341). -/
theorem boundaryInv_of_construct {image : List Byte} {ramInit : Memory} {entryPc : Option Word} {hostCtrl : HostCtrl}
    {intLines : IntLines} {trace : Bool} {s : State}
    (h : construct image ramInit entryPc hostCtrl intLines trace = .ok s) : BoundaryInv s := by
  cases hload : loadImage image with
  | error e => rw [construct_of_loadImage_error hload] at h; cases h
  | ok cart =>
    rw [construct_of_loadImage_ok hload] at h
    cases h
    obtain ⟨hwf, hbelow⟩ := Memory.normal_wf 0x8000 ramInit
    exact boundaryInv_applyReset hwf hbelow (wellFormed_of_loadImage hload)

/-- Settles O9: construction meets the invariant, and every step and host operation keeps it. -/
theorem everyRunOfAConstructedCoreKeepsTheInvariant : Obligations.EveryRunOfAConstructedCoreKeepsTheInvariant := by
  unfold Obligations.EveryRunOfAConstructedCoreKeepsTheInvariant
  intro image ramInit entryPc hostCtrl intLines trace s t moves hconstruct hmoves
  exact State.afterMoves_keeps stepWith_keeps_inv (fun o hs => hostOperationsKeepTheInvariant _ o hs)
    (boundaryInv_of_construct hconstruct) hmoves

/-! The run states without a step (R354, R355, R356). -/

theorem stepWith_of_noStep {s : State} {why : Fault} (ctrl : Byte) (h : s.boundary = .noStep why) :
    stepWith ctrl s = .fault why := by
  rw [stepWith, h]

theorem stepWith_of_halted {s : State} (ctrl : Byte) (h : s.run = .halted) : stepWith ctrl s = .fault .halted :=
  stepWith_of_noStep ctrl (by rw [State.boundary, h])

theorem stepWith_of_faulted {s : State} (ctrl : Byte) (h : s.run = .faulted) :
    stepWith ctrl s = .fault (.faulted s.fault) :=
  stepWith_of_noStep ctrl (by rw [State.boundary, h])

theorem stepWith_of_jammed {s : State} (ctrl : Byte) (h : s.run = .jammed) :
    stepWith ctrl s = .fault (.jammed s.fault) :=
  stepWith_of_noStep ctrl (by rw [State.boundary, h])

/-- No host operation but reset changes the run state (R340, R360). -/
theorem State.afterHost_run (s : State) {o : HostOp} (h : o ≠ .reset) : (s.afterHost o).run = s.run := by
  cases o with
  | reset => exact absurd rfl h
  | requestStop => rfl
  | setIrq level => rw [State.afterHost, State.setIrqLevel]; split <;> rfl
  | assertNmi => rw [State.afterHost, State.assertNmi]; split <;> rfl

/-- Settles O13: each of the three run states answers its fault to a step, and of the host's operations only reset
writes the run state. -/
theorem stoppedRunStatesHaveNoStep : Obligations.StoppedRunStatesHaveNoStep := by
  unfold Obligations.StoppedRunStatesHaveNoStep
  intro ctrl s
  refine ⟨stepWith_of_halted ctrl, stepWith_of_faulted ctrl, stepWith_of_jammed ctrl, fun hrun m t hmove => ?_⟩
  cases m with
  | step ctrl =>
    have hstep := State.afterMove_step.mp hmove
    obtain h | h | h := hrun
    · rw [stepWith_of_halted ctrl h] at hstep; cases hstep
    · rw [stepWith_of_faulted ctrl h] at hstep; cases hstep
    · rw [stepWith_of_jammed ctrl h] at hstep; cases hstep
  | op o =>
    cases hmove
    by_cases ho : o = .reset
    · subst ho; exact .inl ⟨rfl, rfl⟩
    · exact .inr ⟨by simp [ho], s.afterHost_run ho⟩

/-! The controller byte (R361). -/

/-- Settles O15: the boundary write is one write of the byte storage, at a RAM address. -/
theorem hostBoundaryWritesTheControllerByte : Obligations.HostBoundaryWritesTheControllerByte := by
  unfold Obligations.HostBoundaryWritesTheControllerByte
  intro ctrl s
  refine ⟨fun hnone => ?_, fun hany => ?_⟩
  · simp only [State.hostBoundary, hnone]
  · have hwrite : s.hostBoundary ctrl =
        (s.setRam (s.ram.write ctrlAddr.toNat ctrl)).setCtrlDraws (s.ctrlDraws + 1) := by
      rw [State.hostBoundary, hany]
    rw [hwrite]
    exact ⟨s.read_setRam_same (by decide) ctrl, fun _ haddr => s.read_setRam_other haddr ctrl, rfl⟩

end Sys2Proof.Machine
end

section
/-! PROOF. What a step emits and does not emit, and interrupt entry, jam and return (60_exceptions.md R309, R318, R319,
R330, R331, 47_undocumented.md R276). The one idea for the trace: no operation of a step reads `TRACE`, so each of them
commutes with a change of it, and so does the step. The one idea for the return: a handler entry leaves the return
address and P in the three slots that RTI pulls from. -/

namespace Sys2Proof.Machine

/-! The snapshot (R330). -/

/-- A boundary that does not fetch emits no snapshot (R331). -/
theorem State.emittedTrace_of_not_fetch {s : State} (ctrl : Byte) (h : s.boundary ≠ .fetch) :
    s.emittedTrace ctrl = none := by
  unfold State.emittedTrace
  split
  next hfetch => exact absurd hfetch h
  all_goals rfl

/-- A boundary fetches only when no other event comes first (40_core_and_addressing.md R120). -/
theorem State.no_event_of_fetch {s : State} (h : s.boundary = .fetch) :
    s.stopReq = false ∧ s.pc ≠ sentinelPc ∧ s.interruptPending = false := by
  have hboundary := State.boundary_of_run (State.run_of_boundary (s := s) (by simp [h]))
  rw [h] at hboundary
  split_ifs at hboundary with hstop hpc hpending
  simp [hstop, hpc, hpending]

/-- Before the fetch only run, RAM and the draw counter change, and no register (R361). -/
theorem State.readyToFetch_registers (s : State) (ctrl : Byte) :
    (s.readyToFetch ctrl).pc = s.pc ∧ (s.readyToFetch ctrl).a = s.a ∧ (s.readyToFetch ctrl).x = s.x ∧
      (s.readyToFetch ctrl).y = s.y ∧ (s.readyToFetch ctrl).getP = s.getP ∧ (s.readyToFetch ctrl).sp = s.sp := by
  unfold State.readyToFetch State.hostBoundary
  split <;> exact ⟨rfl, rfl, rfl, rfl, rfl, rfl⟩

/-- The table has every opcode, with a length of at most three (30_encoding.md R96, R104). -/
theorem exists_descriptor (op : Byte) : ∃ d, descriptor op = some d ∧ d.length ≤ 3 := by
  obtain ⟨e, he⟩ := exists_opcodeEntry op
  obtain ⟨d, hd, hlengths⟩ := Option.map_eq_some_iff.mp (descriptor_lengths he)
  have hlength : d.length = e.length := congrArg Prod.fst hlengths
  have hformat : e.length ≤ 3 := by
    cases e <;> simp [OpcodeEntry.length]
  exact ⟨d, hd, hlength ▸ hformat⟩

/-- A front part of the bytes fetched has its length, and byte k of it is the one at PC + k. -/
theorem State.take_fetchBytes (s : State) {n : Nat} (hn : n ≤ 3) :
    (s.fetchBytes.take n).length = n ∧
      ∀ k < n, (s.fetchBytes.take n)[k]? = some (s.read (s.pc + BitVec.ofNat 16 k)) := by
  refine ⟨List.length_take_of_le hn, fun k hk => ?_⟩
  rw [List.getElem?_take_of_lt hk, s.fetchBytes_getElem? (by omega)]

/-- Settles O17: the snapshot is that of the state after the boundary write, which has the registers of the state
before. -/
theorem traceSnapshotHoldsTheStateBeforeExecution : Obligations.TraceSnapshotHoldsTheStateBeforeExecution := by
  unfold Obligations.TraceSnapshotHoldsTheStateBeforeExecution
  intro ctrl s hfetch htrace
  obtain ⟨hpc, ha, hx, hy, hp, hsp⟩ := s.readyToFetch_registers ctrl
  obtain ⟨d, hd, hlength⟩ := exists_descriptor ((s.readyToFetch ctrl).read s.pc)
  have hemitted : s.emittedTrace ctrl = (s.readyToFetch ctrl).traceEntry := by
    rw [State.emittedTrace, hfetch, if_pos htrace]
  rw [hemitted, State.traceEntry, hpc, hd]
  have hbytes := (s.readyToFetch ctrl).take_fetchBytes hlength
  rw [hpc] at hbytes
  exact ⟨d, _, rfl, rfl, rfl, ha, hx, hy, hp, hsp, hbytes⟩

/-! A step does not read `TRACE` (R331). -/

/-- An answer with another `TRACE` parameter in its next state. -/
def Answer.withTrace (on : Bool) : Answer → Answer
  | .next t => .next (t.withTrace on)
  | .fault f => .fault f
  | .refused r => .refused r

theorem ImpliedHandler.withTrace {h : State → State} (hh : ImpliedHandler h) (on : Bool) (s : State) :
    h (s.withTrace on) = (h s).withTrace on := by
  cases hh <;> rfl

theorem ReadHandler.withTrace {h : Byte → State → State} (hh : ReadHandler h) (m : Byte) (on : Bool) (s : State) :
    h m (s.withTrace on) = (h m s).withTrace on := by
  cases hh <;> rfl

theorem ModifyHandler.withTrace {f : Byte → Bool → Byte × Bool} {h : Byte → Bool → State → State}
    (hh : ModifyHandler f h) (r : Byte) (c : Bool) (on : Bool) (s : State) :
    h r c (s.withTrace on) = (h r c s).withTrace on := by
  cases hh <;> rfl

theorem StoredValue.withTrace {v : State → Byte} (hv : StoredValue v) (on : Bool) (s : State) :
    v (s.withTrace on) = v s := by
  cases hv <;> rfl

theorem BranchCondition.withTrace {c : State → Bool} (hc : BranchCondition c) (on : Bool) (s : State) :
    c (s.withTrace on) = c s := by
  cases hc <;> rfl

theorem Operand.ea_withTrace (o : Operand) (on : Bool) (s : State) : o.ea (s.withTrace on) = o.ea s := by
  cases o <;> rfl

theorem Operand.value_withTrace (o : Operand) (on : Bool) (s : State) : o.value (s.withTrace on) = o.value s := by
  cases o <;> rfl

/-- A write instruction commutes with a change of `TRACE` when what follows its write does. -/
theorem runWrite_withTrace (opcode : Byte) (o : Operand) (v : Byte) {after : State → State} {on : Bool}
    (hafter : ∀ u, after (u.withTrace on) = (after u).withTrace on) (s : State) :
    runWrite opcode o v after (s.withTrace on) = Answer.withTrace on (runWrite opcode o v after s) := by
  have hea := o.ea_withTrace on s
  by_cases hram : (o.ea s).toNat < 0x8000
  · rw [runWrite_ram _ _ _ (hea ▸ hram), runWrite_ram _ _ _ hram, hea]
    exact congrArg (fun u => (.next (u.advance o.length) : Answer)) (hafter (s.setRam (s.ram.write (o.ea s).toNat v)))
  · rw [runWrite_rom _ _ _ (hea ▸ hram), runWrite_rom _ _ _ hram, hea]
    rfl

theorem exec_withTrace (i : Instr) (on : Bool) (s : State) :
    exec i (s.withTrace on) = Answer.withTrace on (exec i s) := by
  cases exec_shape i with
  | implied hh he => rw [he, he, runImplied, hh.withTrace]; rfl
  | @read h o hh he => rw [he, he, runRead, o.value_withTrace, hh.withTrace]; rfl
  | store hv he => rw [he, he, hv.withTrace]; exact runWrite_withTrace _ _ _ (fun _ => rfl) s
  | @modify f h o hh he =>
    rw [he, he, runModify, o.value_withTrace]
    exact runWrite_withTrace _ _ _ (hh.withTrace _ _ on) s
  | branch hc he => rw [he, he, hc.withTrace]; rfl
  | jump he => rw [he, he]; rfl
  | jumpThrough he => rw [he, he]; rfl
  | call he => rw [he, he]; rfl
  | ret he => rw [he, he]; rfl
  | breakTo he => rw [he, he]; rfl
  | fromHandler he => rw [he, he]; rfl
  | fault he => rw [he, he]; rfl
  | jam he => rw [he, he]; rfl

theorem fetchAndExec_withTrace (on : Bool) (s : State) :
    fetchAndExec (s.withTrace on) = Answer.withTrace on (fetchAndExec s) := by
  have hbytes : (s.withTrace on).fetchBytes = s.fetchBytes := rfl
  rw [fetchAndExec, fetchAndExec, hbytes]
  split
  next => exact exec_withTrace ..
  next => rfl

theorem State.readyToFetch_withTrace (s : State) (ctrl : Byte) (on : Bool) :
    (s.withTrace on).readyToFetch ctrl = (s.readyToFetch ctrl).withTrace on := by
  have hctrl : (s.withTrace on).enterRunning.cfg.hostCtrl = s.enterRunning.cfg.hostCtrl := rfl
  rw [State.readyToFetch, State.readyToFetch, State.hostBoundary, State.hostBoundary, hctrl]
  split <;> rfl

theorem State.interruptEntry_withTrace (s : State) (on : Bool) :
    (s.withTrace on).interruptEntry = s.interruptEntry.withTrace on := by
  have hnmi : (s.withTrace on).nmiPending = s.nmiPending := rfl
  rw [State.interruptEntry, State.interruptEntry, hnmi]
  split <;> rfl

/-- A step commutes with a change of `TRACE` at each event of its boundary. -/
theorem stepWith_withTrace (ctrl : Byte) (on : Bool) (s : State) :
    stepWith ctrl (s.withTrace on) = Answer.withTrace on (stepWith ctrl s) := by
  have hboundary : (s.withTrace on).boundary = s.boundary := rfl
  unfold stepWith
  rw [hboundary]
  cases s.boundary with
  | noStep why => rfl
  | halt => rfl
  | interrupt => exact congrArg Host.Outcome.next (s.enterRunning.interruptEntry_withTrace on)
  | fetch =>
    rw [State.readyToFetch_withTrace]
    exact fetchAndExec_withTrace ..

/-- Settles O16: a step commutes with a change of `TRACE`, and it emits only where it fetches with `TRACE` on. -/
theorem traceParameterChangesNoStep : Obligations.TraceParameterChangesNoStep := by
  unfold Obligations.TraceParameterChangesNoStep
  intro ctrl s on
  refine ⟨fun t h => ?next, fun f h => ?fault, fun htrace => ?off, fun hevent => ?event⟩
  case next => rw [stepWith_withTrace, h]; rfl
  case fault => rw [stepWith_withTrace, h]; rfl
  case off =>
    unfold State.emittedTrace
    split <;> simp [htrace]
  case event =>
    refine State.emittedTrace_of_not_fetch ctrl fun hfetch => ?_
    obtain ⟨hstop, hpc, hpending⟩ := State.no_event_of_fetch hfetch
    obtain h | h | h := hevent
    · simp [hstop] at h
    · exact hpc h
    · simp [hpending] at h

/-! Interrupt entry (R318). -/

/-- Interrupt entry clears the latch, which is clear already unless an NMI is taken, and enters through the vector. -/
theorem State.interruptEntry_eq (s : State) :
    s.interruptEntry =
      (s.setNmiPending false).enterHandler s.pc s.pushedByInterrupt (if s.nmiPending then 0xFFFA else 0xFFFE) := by
  unfold State.interruptEntry
  split
  next => rfl
  next h =>
    have hclear : s.setNmiPending false = s := by
      rw [State.setNmiPending, ← Bool.eq_false_of_not_eq_true h]
    rw [hclear]
    rfl

/-- Settles O14: the step is handler entry from the running state with the latch clear. -/
theorem interruptEntrySavesPcAndStatus : Obligations.InterruptEntrySavesPcAndStatus := by
  unfold Obligations.InterruptEntrySavesPcAndStatus
  intro ctrl s hboundary
  let u := s.enterRunning.setNmiPending false
  let vector : Word := if s.nmiPending then 0xFFFA else 0xFFFE
  have hstep : stepWith ctrl s = .next (u.enterHandler s.pc s.pushedByInterrupt vector) := by
    rw [stepWith_of_interrupt ctrl hboundary, State.interruptEntry_eq]
    rfl
  have hvector : ¬ vector.toNat < 0x8000 ∧ ¬ (vector + 1).toNat < 0x8000 := by
    cases h : s.nmiPending <;> simp [vector, h]
  exact ⟨State.emittedTrace_of_not_fetch ctrl (by simp [hboundary]), _, hstep,
    u.enterHandler_frame s.pc s.pushedByInterrupt hvector.1 hvector.2,
    u.flag_enterHandler s.pc s.pushedByInterrupt vector .i,
    u.flagsKept_enterHandler s.pc s.pushedByInterrupt vector,
    u.read_enterHandler s.pc s.pushedByInterrupt vector⟩

/-! The return (R227, R319). -/

/-- A return on the stack a handler entry left, wherever PC stands: SP as before, PC the return address, and P the copy
pushed with B cleared and bit 5 set. -/
theorem State.returnFromHandler_enterHandler (s : State) (ret : Word) (pushedP : Byte) (vector q : Word) :
    State.returnFromHandler { s.enterHandler ret pushedP vector with pc := q } =
      { s with
        p := (pushedP &&& 0xEF) ||| 0x20
        pc := ret
        ram := (s.enterHandler ret pushedP vector).ram } := by
  obtain ⟨hhi, hlo, hp, -⟩ := s.read_enterHandler ret pushedP vector
  have hframe := s.enterHandler_eq ret pushedP vector
  generalize s.enterHandler ret pushedP vector = t at hhi hlo hp hframe ⊢
  have hsp : t.sp = s.sp - 3 := congrArg State.sp hframe
  have h1 : t.sp + 1 = s.sp - 2 := by rw [hsp]; bv_omega
  have h2 : t.sp + 2 = s.sp - 1 := by rw [hsp]; bv_omega
  have h3 : t.sp + 3 = s.sp := by rw [hsp, BitVec.sub_add_cancel]
  rw [State.returnFromHandler_eq]
  change { t with
    sp := t.sp + 3
    p := (t.read (stackAddr (t.sp + 1)) &&& 0xEF) ||| 0x20
    pc := wordOf (t.read (stackAddr (t.sp + 3))) (t.read (stackAddr (t.sp + 2))) } = _
  rw [h1, h2, h3, hhi, hlo, hp, wordOf_hi8_lo8, hframe]

/-- The copies of P that BRK and interrupt entry push differ in B alone, which the return clears. -/
theorem byte_breakCopy_restored : ∀ g : Byte, ((g ||| 0x30) &&& 0xEF) ||| 0x20 = (g &&& 0xEF) ||| 0x20 := by
  decide

theorem byte_interruptCopy_restored :
    ∀ g : Byte, (((g &&& 0xEF) ||| 0x20) &&& 0xEF) ||| 0x20 = (g &&& 0xEF) ||| 0x20 := by
  decide

/-- A P that is the old one with B cleared keeps every other flag. -/
theorem flagsKept_of_clearedB {s t : State} (hp : t.p = (s.getP &&& 0xEF) ||| 0x20) :
    FlagsKept s t [.b] ∧ t.flag .b = false := by
  have hflag (f : Flag) : t.flag f = if f = .b then false else s.flag f := by
    rw [State.flag, State.getP, hp, State.flag]
    cases f <;> simp [Flag.bit, State.getP]
  exact ⟨fun f hf => by rw [hflag, if_neg (by simpa using hf)], hflag .b⟩

/-- Settles O49: BRK and interrupt entry are handler entries, with PC + 2 and with PC as the return address. -/
theorem rtiReturnsFromBrkAndInterrupts : Obligations.RtiReturnsFromBrkAndInterrupts := by
  unfold Obligations.RtiReturnsFromBrkAndInterrupts
  intro s q
  have hrti (t : State) : exec .rti t = .next t.returnFromHandler := rfl
  refine ⟨⟨s.enterHandler (s.pc + 2) s.pushedByBreak irqVector, _, rfl, hrti _, ?_⟩, _, hrti _, ?_⟩
  · rw [State.returnFromHandler_enterHandler]
    exact ⟨rfl, flagsKept_of_clearedB (byte_breakCopy_restored s.getP)⟩
  · rw [State.interruptEntry_eq, State.returnFromHandler_enterHandler]
    exact ⟨rfl, flagsKept_of_clearedB (byte_interruptCopy_restored s.getP)⟩

/-! The jam (R309). -/

/-- Settles O57: JAM takes the jam, and a jammed core has no step. -/
theorem jamLocksTheCore : Obligations.JamLocksTheCore := by
  unfold Obligations.JamLocksTheCore
  refine ⟨rfl, fun s op _ => ?_⟩
  have hexec : exec (.jam op) s = .next (s.takeJam op) := rfl
  exact ⟨_, hexec, s.takeJam_eq op, stepWith_of_jammed _ rfl⟩

end Sys2Proof.Machine
end

section
/-! PROOF. The undocumented opcodes that combine two operations, and every write to ROM (47_undocumented.md R260 to
R272, R274, 60_exceptions.md R302, R306). The one idea: each combination is at most one write, which leaves every flag
alone, and then one flag computation whose flags and frame are known; where the write goes to ROM the answer is the
fault alone. -/

namespace Sys2Proof.Machine

/-! Rotates, and flags over two writes of P. -/

theorem zeroExtend_ofBool (c : Bool) : (BitVec.ofBool c).zeroExtend 8 = if c then (1 : Byte) else 0 := by
  cases c <;> rfl

theorem rolStep_fst (v : Byte) (c : Bool) : (rolStep v c).1 = (v <<< 1) ||| (if c then (1 : Byte) else 0) := by
  rw [rolStep, zeroExtend_ofBool]

theorem rorStep_fst (v : Byte) (c : Bool) : (rorStep v c).1 = (v >>> 1) ||| ((if c then (1 : Byte) else 0) <<< 7) := by
  rw [rorStep, zeroExtend_ofBool]

theorem FlagsKept.trans {s t u : State} {first second written : List Flag} (hst : FlagsKept s t first)
    (htu : FlagsKept t u second) (hfirst : first ⊆ written) (hsecond : second ⊆ written) : FlagsKept s u written :=
  fun f hf => (htu f fun h => hf (hsecond h)).trans (hst f fun h => hf (hfirst h))

/-- Z and N of a byte stay where neither is written after them. -/
theorem SetsZN.of_flagsKept {r : Byte} {s t : State} {written : List Flag} (hs : SetsZN r s)
    (hkept : FlagsKept s t written) (hz : .z ∉ written) (hn : .n ∉ written) : SetsZN r t :=
  ⟨(hkept .z hz).trans hs.1, (hkept .n hn).trans hs.2⟩

/-! Writes to RAM (R261 to R264, R267, R268). -/

/-- SLO, RLA and SRE on RAM: their step's byte is written, then A becomes the combination `g` of A and that byte, with
the carry of the step and Z and N of A. -/
theorem runModify_combine_of_inRam (opcode : Byte) (f : Byte → Bool → Byte × Bool)
    {h : Byte → Bool → State → State} {g : Byte → Byte → Byte}
    (hh : ∀ r c u, h r c u = (u.setA (g u.a r)).shiftFlags (g u.a r) c) {o : Operand} {s : State} {r : Byte}
    (hr : r = (f (o.value s) (s.flag .c)).1) (hram : InRam (o.ea s)) :
    ∃ t, runModify opcode f h o s = .next t ∧
      t = { s with a := g s.a r, p := t.p, ram := t.ram, pc := s.pc + o.length } ∧
      t.read (o.ea s) = r ∧ MemoryKeptBut s t (o.ea s) ∧ t.flag .c = (f (o.value s) (s.flag .c)).2 ∧
      SetsZN (g s.a r) t ∧ FlagsKept s t [.c, .z, .n] := by
  let c := (f (o.value s) (s.flag .c)).2
  let u := (s.setRam (s.ram.write (o.ea s).toNat r)).setA (g s.a r)
  have hrun : runModify opcode f h o s = .next ((u.shiftFlags (g s.a r) c).advance o.length) := by
    rw [runModify, ← hr, runWrite_ram _ _ _ hram, hh]
    rfl
  exact ⟨_, hrun, rfl, s.read_setRam_same hram r, fun _ haddr => s.read_setRam_other haddr r,
    u.flag_shiftFlags (g s.a r) c .c, u.setsZN_shiftFlags (g s.a r) c, u.flagsKept_shiftFlags (g s.a r) c⟩

/-- RRA and ISB on RAM: the byte is written, then the adder runs on a byte `n`, with C as the P before it has it. -/
theorem runModify_addWithCarry_of_inRam (opcode : Byte) (f : Byte → Bool → Byte × Bool)
    {h : Byte → Bool → State → State} {o : Operand} {s : State} {r n p : Byte} {c : Bool}
    (hr : r = (f (o.value s) (s.flag .c)).1)
    (hh : ∀ ram, h r (f (o.value s) (s.flag .c)).2 (s.setRam ram) =
      State.addWithCarry { s with p := p, ram := ram } n)
    (hc : State.flag { s with p := p } .c = c) (hkept : FlagsKept s { s with p := p } [.c]) (hram : InRam (o.ea s)) :
    ∃ t, runModify opcode f h o s = .next t ∧
      t = { s with a := t.a, p := t.p, ram := t.ram, pc := s.pc + o.length } ∧
      t.read (o.ea s) = r ∧ MemoryKeptBut s t (o.ea s) ∧ t.a = adderResult s.a n c ∧
      t.flag .c = adderCarry s.a n c ∧ t.flag .v = adderOverflow s.a n t.a ∧ SetsZN t.a t ∧
      FlagsKept s t [.c, .v, .z, .n] := by
  subst hc
  let u : State := { s with p := p, ram := s.ram.write (o.ea s).toNat r }
  have hrun : runModify opcode f h o s = .next ((u.addWithCarry n).advance o.length) := by
    rw [runModify, ← hr, runWrite_ram _ _ _ hram, hh]
  exact ⟨_, hrun, rfl, s.read_setRam_same hram r, fun _ haddr => s.read_setRam_other haddr r, rfl,
    u.flag_addWithCarry n .c, u.flag_addWithCarry n .v, u.setsZN_addWithCarry n,
    FlagsKept.trans hkept (u.flagsKept_addWithCarry n) (by decide) (by decide)⟩

/-- DCP on RAM: the byte is written, then A is compared with it. -/
theorem runModify_compareCounted_of_inRam (opcode : Byte) (f : Byte → Bool → Byte × Bool) {o : Operand} {s : State}
    {r : Byte} (hr : r = (f (o.value s) (s.flag .c)).1) (hram : InRam (o.ea s)) :
    ∃ t, runModify opcode f compareCounted o s = .next t ∧
      t = { s with p := t.p, ram := t.ram, pc := s.pc + o.length } ∧
      t.read (o.ea s) = r ∧ MemoryKeptBut s t (o.ea s) ∧ t.flag .c = decide (s.a.toNat ≥ r.toNat) ∧
      SetsZN (s.a - r) t ∧ FlagsKept s t [.c, .z, .n] := by
  let u := s.setRam (s.ram.write (o.ea s).toNat r)
  have hrun : runModify opcode f compareCounted o s = .next ((u.compare s.a r).advance o.length) := by
    rw [runModify, ← hr, runWrite_ram _ _ _ hram]
    rfl
  have hread (addr : Word) : ((u.compare s.a r).advance o.length).read addr = u.read addr :=
    State.read_congr rfl rfl addr
  exact ⟨_, hrun, congrArg (·.advance o.length) (u.compare_eq s.a r), (hread _).trans (s.read_setRam_same hram r),
    fun addr haddr => (hread addr).trans (s.read_setRam_other haddr r), u.flag_compare s.a r .c,
    u.setsZN_compare s.a r, u.flagsKept_compare s.a r⟩

/-- Settles O53: SLO, RLA and SRE combine A with the shifted byte, RRA adds it with the carry of the shift. -/
theorem shiftAndCombineOpcodes : Obligations.ShiftAndCombineOpcodes := by
  unfold Obligations.ShiftAndCombineOpcodes
  intro s b w i o hram m c
  refine ⟨fun r a out h => ?combine, fun hrra => ?rra⟩
  case combine =>
    obtain ⟨hslo, hr, rfl, rfl⟩ | ⟨hrla, hr, rfl, rfl⟩ | ⟨hsre, hr, rfl, rfl⟩ := h
    · rw [exec_sloForms hslo]
      exact runModify_combine_of_inRam (opcodeOf i) aslStep (g := (· ||| ·)) (fun _ _ _ => rfl) hr hram
    · rw [exec_rlaForms hrla]
      exact runModify_combine_of_inRam (opcodeOf i) rolStep (g := (· &&& ·)) (fun _ _ _ => rfl)
        (hr.trans (rolStep_fst ..).symm) hram
    · rw [exec_sreForms hsre]
      exact runModify_combine_of_inRam (opcodeOf i) lsrStep (g := (· ^^^ ·)) (fun _ _ _ => rfl) hr hram
  case rra =>
    intro r sum
    let out := m.getLsbD 0
    obtain ⟨t, hexec, hframe, hread, hmemory, ha, hc, hv, hflags⟩ :=
      runModify_addWithCarry_of_inRam (opcodeOf i) rorStep (h := rotateThenAdd) (n := r) (p := (s.putFlag .c out).p)
        (rorStep_fst m (s.flag .c)).symm (fun _ => rfl)
        (s.flag_putFlag_same (by decide) out) (s.flagsKept_putFlag .c out) hram
    refine ⟨t, (exec_rraForms hrra s).trans hexec, hframe, hread, hmemory, ?_, hc, hv, hflags⟩
    rw [ha]
    exact adderResult_toNat s.a r out

/-- Settles O54: DCP compares A with the decremented byte, ISB runs the adder on the incremented byte inverted. -/
theorem countAndCombineOpcodes : Obligations.CountAndCombineOpcodes := by
  unfold Obligations.CountAndCombineOpcodes
  intro s b w i o hram m
  refine ⟨fun hdcp => ?dcp, fun hisb => ?isb⟩
  case dcp =>
    rw [exec_dcpForms hdcp]
    exact runModify_compareCounted_of_inRam (opcodeOf i) decrement rfl hram
  case isb =>
    intro difference
    obtain ⟨t, hexec, hframe, hread, hmemory, ha, hc, hv, hflags⟩ :=
      runModify_addWithCarry_of_inRam (opcodeOf i) increment (h := subtractCounted) (s := s) (o := o) (r := m + 1)
        (n := (m + 1) ^^^ 0xFF) (p := s.p) rfl (fun _ => rfl) rfl (fun _ _ => rfl) hram
    refine ⟨t, (exec_isbForms hisb s).trans hexec, hframe, hread, hmemory, ?result, ?carry, hv, hflags⟩
    case result =>
      rw [ha]
      exact adderResult_inverted s.a (m + 1) (s.flag .c)
    case carry => exact hc.trans (adderCarry_inverted s.a (m + 1) (s.flag .c))

/-! Combined loads and immediate combinations (R266, R269 to R272, R274). -/

/-- Settles O55: LAX and LAS write their registers, then set Z and N from the value. -/
theorem combinedLoads : Obligations.CombinedLoads := by
  unfold Obligations.CombinedLoads
  intro s b w i o
  refine ⟨fun hlax => ?lax, fun hlas => ?las⟩
  case lax => exact ⟨_, exec_laxForms hlax s, rfl, State.setZN_advance_frame rfl rfl rfl _ _⟩
  case las => exact ⟨_, exec_lasForms hlas s, rfl, State.setZN_advance_frame rfl rfl rfl _ _⟩

/-- Settles O56: ALR and SBX write a register and then C, Z and N at once; ANC and ARR set Z and N from A and then
write the other flags, which leaves those two alone. -/
theorem immediateCombinations : Obligations.ImmediateCombinations := by
  unfold Obligations.ImmediateCombinations
  intro s op m c
  refine ⟨?anc, ?alr, ?arr, ?sbx⟩
  case anc =>
    let r := s.a &&& m
    let u := (s.setA r).setZN r
    let out := r.getLsbD 7
    have hkept := u.flagsKept_putFlag .c out
    exact ⟨_, runRead_eq andCarry (.imm m) s, rfl,
      SetsZN.of_flagsKept ((s.setA r).setsZN_setZN r) hkept (by decide) (by decide),
      u.flag_putFlag_same (f := .c) (by decide) out,
      FlagsKept.trans ((s.setA r).flagsKept_setZN r) hkept (by decide) (by decide), memoryKept_of rfl rfl⟩
  case alr =>
    let r := (s.a &&& m) >>> 1
    let u := s.setA r
    let out := (s.a &&& m).getLsbD 0
    exact ⟨_, runRead_eq andShift (.imm m) s, rfl, u.setsZN_shiftFlags r out, u.flag_shiftFlags r out .c,
      u.flagsKept_shiftFlags r out, memoryKept_of rfl rfl⟩
  case arr =>
    let r := andRotateResult m s
    let u := (s.setA r).setZN r
    let v := u.putFlag .c (r.getLsbD 6)
    have hr : r = ((s.a &&& m) >>> 1) ||| (c <<< 7) := rorStep_fst (s.a &&& m) (s.flag .c)
    have hc := u.flagsKept_putFlag .c (r.getLsbD 6)
    have hv := v.flagsKept_putFlag .v (r.getLsbD 6 ^^ r.getLsbD 5)
    have hkept := FlagsKept.trans (written := [.c, .v]) hc hv (by decide) (by decide)
    refine ⟨_, runRead_eq andRotate (.imm m) s, by rw [← hr]; rfl,
      SetsZN.of_flagsKept ((s.setA r).setsZN_setZN r) hkept (by decide) (by decide),
      (hv .c (by decide)).trans (u.flag_putFlag_same (by decide) _), v.flag_putFlag_same (by decide) _,
      FlagsKept.trans ((s.setA r).flagsKept_setZN r) hkept (by decide) (by decide), memoryKept_of rfl rfl⟩
  case sbx =>
    let r := (s.a &&& s.x) - m
    let u := s.setX r
    let noBorrow := decide ((s.a &&& s.x).toNat ≥ m.toNat)
    exact ⟨_, runRead_eq subtractX (.imm m) s, rfl, u.setsZN_shiftFlags r noBorrow, u.flag_shiftFlags r noBorrow .c,
      u.flagsKept_shiftFlags r noBorrow, memoryKept_of rfl rfl⟩

/-! Writes to ROM (R260, R302, R306). -/

section
variable {i : Instr} {o : Operand} {s : State}

/-- A write instruction on ROM raises the fault and changes nothing else (R302, R306). -/
theorem FaultsReadOnly.of_write (hrom : ¬ InRam (o.ea s)) {v : Byte} {after : State → State}
    (he : exec i s = runWrite (opcodeOf i) o v after s) : FaultsReadOnly i o v s := by
  rw [FaultsReadOnly, he, runWrite_rom _ _ _ hrom, State.takeFault_eq]

theorem FaultsReadOnly.of_modify (hrom : ¬ InRam (o.ea s)) {f : Byte → Bool → Byte × Bool}
    {h : Byte → Bool → State → State} (he : exec i s = runModify (opcodeOf i) f h o s) :
    FaultsReadOnly i o (f (o.value s) (s.flag .c)).1 s :=
  .of_write hrom he

end

/-- Settles O34: every form is a write at its effective address, with the byte its store or step gives. -/
theorem writesToRomFaultPrecisely : Obligations.WritesToRomFaultPrecisely := by
  unfold Obligations.WritesToRomFaultPrecisely
  intro s b w i o hrom m c
  have hstore {v : Byte} (he : exec i s = runStore (opcodeOf i) o v s) : FaultsReadOnly i o v s := .of_write hrom he
  refine ⟨fun h => hstore (exec_staForms h s), fun h => hstore (exec_stxForms h s),
    fun h => hstore (exec_styForms h s), fun h => hstore (exec_saxForms h s),
    fun h => ?increment, fun h => ?decrement, fun h => ?shiftLeft,
    fun h => ?shiftRight, fun h => ?rotateLeft, fun h => ?rotateRight⟩
  case increment =>
    obtain h | h := List.mem_append.mp h
    · exact .of_modify hrom (exec_incForms h s)
    · exact .of_modify hrom (exec_isbForms h s)
  case decrement =>
    obtain h | h := List.mem_append.mp h
    · exact .of_modify hrom (exec_decForms h s)
    · exact .of_modify hrom (exec_dcpForms h s)
  case shiftLeft =>
    obtain h | h := List.mem_append.mp h
    · exact .of_modify hrom (exec_aslForms h s)
    · exact .of_modify hrom (exec_sloForms h s)
  case shiftRight =>
    obtain h | h := List.mem_append.mp h
    · exact .of_modify hrom (exec_lsrForms h s)
    · exact .of_modify hrom (exec_sreForms h s)
  case rotateLeft =>
    rw [← rolStep_fst]
    obtain h | h := List.mem_append.mp h
    · exact .of_modify hrom (exec_rolForms h s)
    · exact .of_modify hrom (exec_rlaForms h s)
  case rotateRight =>
    rw [← rorStep_fst]
    obtain h | h := List.mem_append.mp h
    · exact .of_modify hrom (exec_rorForms h s)
    · exact .of_modify hrom (exec_rraForms h s)

end Sys2Proof.Machine
end

section
/-! PROOF. What stops the core (47_undocumented.md R260, R276 to R283, 60_exceptions.md R302, R303, R305, R307, R309).
The one idea: an instruction jams, faults always, writes at an effective address, or leaves run and the record alone,
and the table's status and mnemonic say which; that they do, each constructor shows. -/

namespace Sys2Proof.Machine

/-- The mnemonics that write at an effective address (R260, R302, 40_core_and_addressing.md R145). -/
def writingMnemonics : List String :=
  ["STA", "STX", "STY", "SAX", "ASL", "LSR", "ROL", "ROR", "INC", "DEC", "SLO", "RLA", "SRE", "RRA", "DCP", "ISB"]

/-- From every state the instruction stops the core as its descriptor says, and otherwise leaves run and the record
alone but for a write to ROM (R302, R303, R309). -/
def StopsAsDescribed (i : Instr) (d : Descriptor) : Prop :=
  ∀ s, ∃ t, exec i s = .next t ∧
    (d.status = .jams → t.run = .jammed) ∧ (d.status = .faults → t.run = .faulted) ∧
    (d.status = .executes →
      (t.run = s.run ∧ t.fault = s.fault) ∨
      (d.mnemonic ∈ writingMnemonics ∧ d.mode ≠ .accumulator ∧
        ∃ addr v, ¬ InRam addr ∧
          t = { s with
                run := .faulted
                fault := some { kind := .readOnlyViolation addr v, pc := s.pc, opcode := opcodeOf i } }))

@[simp] theorem State.enterHandler_run (s : State) (ret : Word) (pushedP : Byte) (vector : Word) :
    (s.enterHandler ret pushedP vector).run = s.run := by
  rw [State.enterHandler_eq]

@[simp] theorem State.enterHandler_fault (s : State) (ret : Word) (pushedP : Byte) (vector : Word) :
    (s.enterHandler ret pushedP vector).fault = s.fault := by
  rw [State.enterHandler_eq]

section
variable {i : Instr} {d : Descriptor}

theorem StopsAsDescribed.of_keeps (hstatus : d.status = .executes)
    (he : ∀ s, ∃ t, exec i s = .next t ∧ t.run = s.run ∧ t.fault = s.fault) : StopsAsDescribed i d := by
  intro s
  obtain ⟨t, hexec, hkept⟩ := he s
  exact ⟨t, hexec, by simp [hstatus], by simp [hstatus], fun _ => .inl hkept⟩

theorem StopsAsDescribed.of_implied {h : State → State} (hstatus : d.status = .executes)
    (he : ∀ s, exec i s = runImplied h s) (hkept : ∀ s, (h s).run = s.run ∧ (h s).fault = s.fault) :
    StopsAsDescribed i d :=
  .of_keeps hstatus fun s => ⟨_, he s, hkept s⟩

theorem StopsAsDescribed.of_read {h : Byte → State → State} {o : Operand} (hstatus : d.status = .executes)
    (he : ∀ s, exec i s = runRead h o s) (hkept : ∀ m s, (h m s).run = s.run ∧ (h m s).fault = s.fault) :
    StopsAsDescribed i d :=
  .of_keeps hstatus fun s => ⟨_, he s, hkept _ s⟩

/-- Stores and read-modify-writes: what follows the write keeps run and the record, and a ROM address
gives the fault. -/
theorem StopsAsDescribed.of_write {o : Operand} {v : State → Byte} {after : State → State → State}
    (hstatus : d.status = .executes) (hmnemonic : d.mnemonic ∈ writingMnemonics) (hmode : d.mode ≠ .accumulator)
    (he : ∀ s, exec i s = runWrite (opcodeOf i) o (v s) (after s) s)
    (hafter : ∀ s u, (after s u).run = u.run ∧ (after s u).fault = u.fault) : StopsAsDescribed i d := by
  intro s
  obtain ⟨t, hexec⟩ := exec_next i s
  refine ⟨t, hexec, by simp [hstatus], by simp [hstatus], fun _ => ?_⟩
  obtain ⟨-, rfl⟩ | ⟨hrom, rfl⟩ := runWrite_cases ((he s).symm.trans hexec)
  · exact .inl (hafter s _)
  · exact .inr ⟨hmnemonic, hmode, _, _, hrom, State.takeFault_eq ..⟩

theorem StopsAsDescribed.of_fault {opcode : Byte} (hstatus : d.status = .faults)
    (he : ∀ s, exec i s = .next (s.takeFault .unmodelledOpcode opcode)) : StopsAsDescribed i d :=
  fun s => ⟨_, he s, by simp [hstatus], fun _ => rfl, by simp [hstatus]⟩

theorem StopsAsDescribed.of_jam {opcode : Byte} (hstatus : d.status = .jams)
    (he : ∀ s, exec i s = .next (s.takeJam opcode)) : StopsAsDescribed i d :=
  fun s => ⟨_, he s, fun _ => rfl, by simp [hstatus], by simp [hstatus]⟩

end

/-- The descriptor of an instruction stands in the table at the first byte of its encoding (30_encoding.md R95). -/
theorem descriptorOf_of_encode {i : Instr} {op : Byte} {operands : List Byte} (h : encode i = op :: operands) :
    descriptorOf i = descriptor op := by
  rw [descriptorOf, opcodeOf, h, List.headD_cons]

/-- An instruction that shares its constructor with others: their opcodes share a status. -/
theorem exists_stopsAsDescribed_of_mem {i : Instr} {op : Byte} {operands : List Byte} {status : OpcodeStatus}
    (ops : List Byte) (hops : ops.all (fun op => (descriptor op).map (fun d => d.status) == some status) = true)
    (hop : decide (op ∈ ops) = true) (hencode : encode i = op :: operands)
    (hstops : ∀ {d}, d.status = status → StopsAsDescribed i d) :
    ∃ d, descriptorOf i = some d ∧ StopsAsDescribed i d := by
  have hstatus : (descriptor op).map (fun d => d.status) = some status := by
    simpa using List.all_eq_true.mp hops op (of_decide_eq_true hop)
  obtain ⟨d, hd, hd_status⟩ := Option.map_eq_some_iff.mp hstatus
  exact ⟨d, (descriptorOf_of_encode hencode).trans hd, hstops hd_status⟩

/-- Every well-formed instruction stops the core as the table says of its opcode (30_encoding.md R95, R98). -/
theorem exists_stopsAsDescribed {i : Instr} (h : i.wellFormed = true) :
    ∃ d, descriptorOf i = some d ∧ StopsAsDescribed i d := by
  cases i with
  | jam op =>
    exact exists_stopsAsDescribed_of_mem jamOpcodes (by decide) h rfl fun hd => .of_jam hd fun _ => rfl
  | nopImplied op =>
    exact exists_stopsAsDescribed_of_mem nopImpliedOpcodes (by decide) h rfl fun hd =>
      .of_implied hd (fun _ => rfl) (fun _ => ⟨rfl, rfl⟩)
  | nopZp op =>
    exact exists_stopsAsDescribed_of_mem nopZpOpcodes (by decide) h rfl fun hd =>
      .of_read hd (fun _ => rfl) (fun _ _ => ⟨rfl, rfl⟩)
  | nopZpX op =>
    exact exists_stopsAsDescribed_of_mem nopZpXOpcodes (by decide) h rfl fun hd =>
      .of_read hd (fun _ => rfl) (fun _ _ => ⟨rfl, rfl⟩)
  | nopAbsX op =>
    exact exists_stopsAsDescribed_of_mem nopAbsXOpcodes (by decide) h rfl fun hd =>
      .of_read hd (fun _ => rfl) (fun _ _ => ⟨rfl, rfl⟩)
  | nopImm op =>
    exact exists_stopsAsDescribed_of_mem nopImmOpcodes (by decide) h rfl fun hd =>
      .of_read hd (fun _ => rfl) (fun _ _ => ⟨rfl, rfl⟩)
  | ancImm op =>
    exact exists_stopsAsDescribed_of_mem ancOpcodes (by decide) h rfl fun hd =>
      .of_read hd (fun _ => rfl) (fun _ _ => ⟨rfl, rfl⟩)
  | aneImm | lxaImm | shaIndY | shaAbsY | shyAbsX | shxAbsY | tasAbsY =>
    refine ⟨_, (descriptorOf_of_encode rfl).trans rfl, ?_⟩
    exact .of_fault rfl fun _ => rfl
  | staIndX | saxIndX | styZp | staZp | stxZp | saxZp | styAbs | staAbs | stxAbs | saxAbs | staIndY | styZpX |
    staZpX | stxZpY | saxZpY | staAbsY | staAbsX | sloIndX | aslZp | sloZp | aslAbs | sloAbs | sloIndY | aslZpX |
    sloZpX | sloAbsY | aslAbsX | sloAbsX | rlaIndX | rolZp | rlaZp | rolAbs | rlaAbs | rlaIndY | rolZpX | rlaZpX |
    rlaAbsY | rolAbsX | rlaAbsX | sreIndX | lsrZp | sreZp | lsrAbs | sreAbs | sreIndY | lsrZpX | sreZpX | sreAbsY |
    lsrAbsX | sreAbsX | rraIndX | rorZp | rraZp | rorAbs | rraAbs | rraIndY | rorZpX | rraZpX | rraAbsY | rorAbsX |
    rraAbsX | dcpIndX | decZp | dcpZp | decAbs | dcpAbs | dcpIndY | decZpX | dcpZpX | dcpAbsY | decAbsX | dcpAbsX |
    isbIndX | incZp | isbZp | incAbs | isbAbs | isbIndY | incZpX | isbZpX | isbAbsY | incAbsX | isbAbsX =>
    refine ⟨_, (descriptorOf_of_encode rfl).trans rfl, ?_⟩
    exact .of_write rfl (by decide) (by decide) (fun _ => rfl) (fun _ _ => ⟨rfl, rfl⟩)
  | brk =>
    refine ⟨_, (descriptorOf_of_encode rfl).trans rfl, ?_⟩
    exact .of_keeps rfl fun s => ⟨_, rfl, s.enterHandler_run .., s.enterHandler_fault ..⟩
  | rti | rts | jsrAbs | jmpAbs | jmpInd | bpl | bmi | bvc | bvs | bcc | bcs | bne | beq =>
    refine ⟨_, (descriptorOf_of_encode rfl).trans rfl, ?_⟩
    exact .of_keeps rfl fun _ => ⟨_, rfl, rfl, rfl⟩
  | php | aslAcc | clc | plp | rolAcc | sec | pha | lsrAcc | cli | pla | rorAcc | sei | dey | txa | tya | txs | tay |
    tax | clv | tsx | iny | dex | cld | inx | nop | sed =>
    refine ⟨_, (descriptorOf_of_encode rfl).trans rfl, ?_⟩
    exact .of_implied rfl (fun _ => rfl) (fun _ => ⟨rfl, rfl⟩)
  | _ =>
    refine ⟨_, (descriptorOf_of_encode rfl).trans rfl, ?_⟩
    exact .of_read rfl (fun _ => rfl) (fun _ _ => ⟨rfl, rfl⟩)

/-- Settles O60: the descriptor says how the instruction stops the core. -/
theorem onlyRomWritesJamsAndUnstableOpcodesStop : Obligations.OnlyRomWritesJamsAndUnstableOpcodesStop := by
  unfold Obligations.OnlyRomWritesJamsAndUnstableOpcodesStop
  intro i s h
  obtain ⟨d, hd, hstops⟩ := exists_stopsAsDescribed h
  obtain ⟨t, ht⟩ := hstops s
  exact ⟨d, t, hd, ht⟩

end Sys2Proof.Machine
end
